-- ==== Sys2Proof/Word.lean ====
section
/-! DEFINITION. The words of the KH416: bytes, header fields, client addresses, and the bounded numbers by which the
spec names ports, streams, domains, table entries and ORT slots (00, sections 1.1 and 4). -/

namespace Sys2Proof

/-- One byte of a link frame, and every 8-bit field: node numbers, client and upstream tags, sequence numbers. -/
abbrev Byte := BitVec 8

/-- A 16-bit field: lengths, check words, tickets, fault sequence numbers. -/
abbrev Half := BitVec 16

/-- A client address (32 bits). -/
abbrev Addr := BitVec 32

/-- A fabric address (44 bits). -/
abbrev FabricAddr := BitVec 44

/-- A client port, CP0 to CP3. -/
abbrev Port := Fin 4

/-- A stream of a port, 0 to 15. -/
abbrev Stream := Fin 16

/-- A domain (tenant), 0 to 15. -/
abbrev Domain := Fin 16

/-- The index of a Mapping Table entry, 0 to 63. -/
abbrev EntryIndex := Fin 64

/-- The number of an ORT slot, 0 to 31. -/
abbrev SlotIndex := Fin 32

end Sys2Proof
end

