-- ==== Sys2Proof/Config.lean ====
section
/-! DEFINITION. The sizes, limits, codes and default settings the spec fixes for the part. The spec leaves no
value of an instruction undefined, so this file holds no free value. -/

namespace Sys2Proof.Config

/-- R3: at most this many pinned entries. -/
def maxPinned : Nat := 48

/-- R173: the records the Fault Log holds. -/
def logCapacity : Nat := 16

/-- R91: the records the Miss List holds. -/
def missCapacity : Nat := 16

/-- R88: the slots of the Held Store. -/
def heldCapacity : Nat := 32

/-- R118: the records the Fence List holds. -/
def fenceCapacity : Nat := 4

/-- R45: the packets an Ingress Queue holds, and the credits of an UP port with an empty queue. -/
def queueCapacity : Nat := 8

/-- R181, R182: the longest payload on either link, in bytes. -/
def maxPayload : Nat := 256

/-- R4, R54: the size of a client page. -/
def pageBytes : Nat := 4096

/-- R110: the records one READ MISSES reply returns at most. -/
def missesPerReply : Nat := 8

/-- R177: the records one LOG READ returns at most. -/
def maxLogRead : Nat := 4

/-- R165: the own node number of strap value 0. -/
def firstNode : Byte := 128

/-- R82: the miss timeout after power-on, pin reset and RESET FULL, in ticks. -/
def defaultMissTimeout : Byte := 50

/-- R82: the upstream timeout after power-on, pin reset and RESET FULL, in ticks. -/
def defaultUpstreamTimeout : Byte := 16

/-- R43: the miss quota of a cleared domain record. -/
def defaultQuota : Byte := 4

/-- R43: the outstanding limit of a cleared domain record. -/
def defaultLimit : Byte := 8

/-- R171: the code of a POSTED_FAILED record ended by an upstream timeout. -/
def codeTimeout : Half := 0x0100

/-- R171: the code of a POSTED_FAILED record ended by fabric link loss. -/
def codeLinkLoss : Half := 0x0101

end Sys2Proof.Config
end

