-- ==== Sys2Proof/Syntax.lean ====
section
/-! DEFINITION. The commands the KH416 takes: one constructor of `Instr` for each row of spec/opcode_table.json,
with the operands the spec gives the row. The operands of packet rows are the fields of the packet that the part
examines; how the bytes of a frame spell a row is `Sys2Proof.fabricRow` in Decode.lean. -/

namespace Sys2Proof

/-- A payload with the payload check that follows it (R180, R181), as received. -/
structure Payload where
  /-- The payload bytes, in the order sent. -/
  bytes : List Byte
  /-- The payload check as received; it need not be good. -/
  check : Half
  deriving DecidableEq, Repr

/-- A COMMAND packet that passed R73's header check and destination test, of the row's command code (R129, R187).
The header fields that R129 does not examine are left out. -/
structure Command where
  /-- The node that sent the command. -/
  source : Byte
  /-- The sequence number the manager chose. -/
  sequence : Byte
  /-- Every payload byte after the command code, as received: any number of them, of any value. -/
  params : List Byte
  /-- The payload check as received. -/
  check : Half
  deriving DecidableEq, Repr

/-- A response packet that passed R73's header check and destination test (R74, R185). Its length and sequence
fields are not examined and are left out. -/
structure Response where
  /-- The node that sent the response. -/
  source : Byte
  /-- The upstream tag it answers. -/
  tag : Byte
  /-- The status byte; it matters for FABRIC ERROR only. -/
  status : Byte
  /-- The 48-bit address field (R186). -/
  address : BitVec 48
  /-- The payload, or none where the packet carries none. -/
  payload : Option Payload
  deriving DecidableEq, Repr

/-- The commands and events of the part, in the order of spec/opcode_table.json. -/
inductive Instr where
  /-- POWER_ON: supply is applied with the strap lines at `strap` (R165). -/
  | powerOn (strap : BitVec 4)
  /-- PIN_RESET_ASSERT: RSTN goes low (R166). -/
  | pinResetAssert
  /-- PIN_RESET_RELEASE: RSTN goes high with the strap lines at `strap` (R165, R166). -/
  | pinResetRelease (strap : BitVec 4)
  /-- STARTUP_CLEARING_DONE: the clearing of start-up ends (R165). -/
  | startupClearingDone
  /-- CLIENT_LINK_UP: the link of port `p` comes UP (R46). -/
  | clientLinkUp (p : Port)
  /-- CLIENT_LINK_DOWN: the link of port `p` goes DOWN (R47 to R49). -/
  | clientLinkDown (p : Port)
  /-- FABRIC_LINK_UP: the fabric link comes UP (R168). -/
  | fabricLinkUp
  /-- FABRIC_LINK_LOSS: the fabric link goes DOWN (R167). -/
  | fabricLinkLoss
  /-- CLIENT_PACKET_ARRIVAL: a frame arrives whole on port `p`, any bytes (R50 to R52, R181). -/
  | clientPacketArrival (p : Port) (frame : List Byte)
  /-- HEAD_PROCESSING: port `p` processes the head of its Ingress Queue (R53). -/
  | headProcessing (p : Port)
  /-- PORT_STALE_RELOOKUP: port `p` looks its stale staged request up again (R59). -/
  | portStaleRelookup (p : Port)
  /-- GRANT: the arbiter makes one grant (R69, R71). -/
  | grant
  /-- READ_DATA: a READ DATA arrives for the part (R74, R75). -/
  | readData (r : Response)
  /-- WRITE_ACK: a WRITE ACK arrives for the part (R74, R76). -/
  | writeAck (r : Response)
  /-- FABRIC_ERROR: a FABRIC ERROR arrives for the part (R74, R77). -/
  | fabricError (r : Response)
  /-- FABRIC_BAD_FRAME: a fabric frame of a wrong length or with a bad header check (R73, R181). -/
  | fabricBadFrame (frame : List Byte)
  /-- FOREIGN_PACKET: a fabric packet for another node (R73). -/
  | foreignPacket (destination : Byte)
  /-- UNSOLICITED_PACKET: a packet for the part that is neither a response nor a COMMAND (R147). -/
  | unsolicitedPacket (source kind : Byte)
  /-- TICK: the Timebase produces a tick (R82, R83). -/
  | tick
  /-- UPSTREAM_TIMER_EXPIRY: the upstream timer of a slot expires (R79). -/
  | upstreamTimerExpiry (slot : SlotIndex)
  /-- MISS_TIMER_EXPIRY: the miss timer of the record with this ticket expires (R98). -/
  | missTimerExpiry (ticket : Half)
  /-- REPLAY_PROCESSING: the waiting first entry of the Replay Queue is processed (R105). -/
  | replayProcessing
  /-- RP_STALE_RELOOKUP: the stale request at RP is looked up again (R107). -/
  | rpStaleRelookup
  /-- FENCE_COMPLETION: the oldest fence record whose captured set is empty is replied to (R122). -/
  | fenceCompletion
  /-- DRAIN_COMPLETION: the draining part is found drained (R157). -/
  | drainCompletion
  /-- CLAIM, code 0x01 (R138). -/
  | claim (c : Command)
  /-- RELINQUISH, code 0x02 (R139). -/
  | relinquish (c : Command)
  /-- STATUS, code 0x03 (R142). -/
  | status (c : Command)
  /-- OPEN, code 0x10 (R153). -/
  | openCmd (c : Command)
  /-- CLOSE, code 0x11 (R154). -/
  | close (c : Command)
  /-- QUIESCE, code 0x12 (R155). -/
  | quiesce (c : Command)
  /-- RELEASE, code 0x13 (R159). -/
  | release (c : Command)
  /-- RESET_TRAFFIC, code 0x14: every RESET whose kind byte is not 2, malformed ones included (R161, R162). -/
  | resetTraffic (c : Command)
  /-- RESET_FULL, code 0x14: every RESET whose kind byte is 2 (R161, R162). -/
  | resetFull (c : Command)
  /-- SET_TIMING, code 0x18 (R84). -/
  | setTiming (c : Command)
  /-- BIND_STREAM, code 0x20 (R29). -/
  | bindStream (c : Command)
  /-- READ_STREAM, code 0x21 (R31). -/
  | readStream (c : Command)
  /-- SET_DOMAIN, code 0x22 (R33). -/
  | setDomain (c : Command)
  /-- READ_DOMAIN, code 0x23 (R35). -/
  | readDomain (c : Command)
  /-- INSTALL, code 0x30: every INSTALL whose index byte is not 0xFF (R11 to R15). -/
  | install (c : Command)
  /-- INSTALL_ANY, code 0x30: every INSTALL whose index byte is 0xFF (R16 to R18). -/
  | installAny (c : Command)
  /-- SET_PIN, code 0x31 (R21). -/
  | setPin (c : Command)
  /-- READ_ENTRY, code 0x32 (R22). -/
  | readEntry (c : Command)
  /-- INVALIDATE_INDEX, code 0x33: selector 1, and every INVALIDATE whose selector names none (R114). -/
  | invalidateIndex (c : Command)
  /-- INVALIDATE_DOMAIN, code 0x33: selector 2 (R115). -/
  | invalidateDomain (c : Command)
  /-- INVALIDATE_RANGE, code 0x33: selector 3 (R115). -/
  | invalidateRange (c : Command)
  /-- INVALIDATE_UNPINNED, code 0x33: selector 4 (R115). -/
  | invalidateUnpinned (c : Command)
  /-- INVALIDATE_ALL, code 0x33: selector 5 (R115). -/
  | invalidateAll (c : Command)
  /-- FENCE, code 0x34 (R121). -/
  | fence (c : Command)
  /-- RESOLVE_RETRY, code 0x40: every RESOLVE whose action byte is not 2, malformed ones included (R100, R102). -/
  | resolveRetry (c : Command)
  /-- RESOLVE_DENY, code 0x40: every RESOLVE whose action byte is 2 (R100, R101). -/
  | resolveDeny (c : Command)
  /-- READ_MISSES, code 0x41 (R110). -/
  | readMisses (c : Command)
  /-- LOG_READ, code 0x50 (R177). -/
  | logRead (c : Command)
  /-- UNKNOWN_COMMAND: a COMMAND whose code is not in the catalogue (R141). `payload` is the whole payload, code
  first; the empty payload is a header-only COMMAND frame, which R181 drops as one whose payload check fails. -/
  | unknownCommand (source sequence : Byte) (payload : List Byte) (check : Half)
  deriving DecidableEq, Repr

end Sys2Proof
end

