-- ==== Sys2Proof/WellFormed.lean ====
section
/-! DEFINITION. Which terms of `Instr` stand for an event that can reach the part: payload lengths that a frame can
carry (R181), and COMMAND operands that belong to the row they stand in (R131, R148, R187). A term that is not
well formed still has a meaning; no packet spells it. -/

namespace Sys2Proof

/-- The command codes of the catalogue (R148). -/
def catalogue : List Byte :=
  [0x01, 0x02, 0x03, 0x10, 0x11, 0x12, 0x13, 0x14, 0x18, 0x20, 0x21, 0x22, 0x23, 0x30, 0x31, 0x32, 0x33, 0x34, 0x40,
   0x41, 0x50]

/-- The packet kinds the fabric port hands on as a response or a COMMAND (R73, R184). -/
def takenKinds : List Byte := [0x51, 0x52, 0x5F, 0x60]

/-- A COMMAND frame carries at most 256 payload bytes, its code among them (R181). -/
def Command.wf (c : Command) : Bool := c.params.length ≤ 255

/-- A response frame carries no payload or one of 1 to 256 bytes (R181). -/
def Response.wf (r : Response) : Bool :=
  match r.payload with
  | none => true
  | some p => 1 ≤ p.bytes.length && p.bytes.length ≤ 256

/-- The action byte of RESOLVE, its third parameter byte (R187). -/
def Command.action (c : Command) : Option Byte := c.params[2]?

/-- The first parameter byte: the kind of RESET, the selector of INVALIDATE, the index of INSTALL (R187). -/
def Command.first (c : Command) : Option Byte := c.params[0]?

/-- The operands belong to the row: see the file's header. -/
def Instr.wf : Instr → Bool
  | .powerOn _ => true
  | .pinResetAssert => true
  | .pinResetRelease _ => true
  | .startupClearingDone => true
  | .clientLinkUp _ => true
  | .clientLinkDown _ => true
  | .fabricLinkUp => true
  | .fabricLinkLoss => true
  | .clientPacketArrival _ _ => true
  | .headProcessing _ => true
  | .portStaleRelookup _ => true
  | .grant => true
  | .readData r => r.wf
  | .writeAck r => r.wf
  | .fabricError r => r.wf
  | .fabricBadFrame _ => true
  | .foreignPacket _ => true
  | .unsolicitedPacket _ kind => !takenKinds.contains kind
  | .tick => true
  | .upstreamTimerExpiry _ => true
  | .missTimerExpiry _ => true
  | .replayProcessing => true
  | .rpStaleRelookup => true
  | .fenceCompletion => true
  | .drainCompletion => true
  | .claim c => c.wf
  | .relinquish c => c.wf
  | .status c => c.wf
  | .openCmd c => c.wf
  | .close c => c.wf
  | .quiesce c => c.wf
  | .release c => c.wf
  | .resetTraffic c => c.wf && c.first != some 2
  | .resetFull c => c.wf && c.first == some 2
  | .setTiming c => c.wf
  | .bindStream c => c.wf
  | .readStream c => c.wf
  | .setDomain c => c.wf
  | .readDomain c => c.wf
  | .install c => c.wf && c.first != some 0xFF
  | .installAny c => c.wf && c.first == some 0xFF
  | .setPin c => c.wf
  | .readEntry c => c.wf
  | .invalidateIndex c => c.wf && !([some 2, some 3, some 4, some 5].contains c.first)
  | .invalidateDomain c => c.wf && c.first == some 2
  | .invalidateRange c => c.wf && c.first == some 3
  | .invalidateUnpinned c => c.wf && c.first == some 4
  | .invalidateAll c => c.wf && c.first == some 5
  | .fence c => c.wf
  | .resolveRetry c => c.wf && c.action != some 2
  | .resolveDeny c => c.wf && c.action == some 2
  | .readMisses c => c.wf
  | .logRead c => c.wf
  | .unknownCommand _ _ payload _ =>
    payload.length ≤ 256 && (match payload with | [] => true | code :: _ => !catalogue.contains code)

end Sys2Proof
end

