-- ==== Sys2Proof/Decode.lean ====
section
/-! DEFINITION. Reading the links' bytes: byte order, the check word (R180), frame lengths (R181), client packets
(R182), and the fabric port's examination of a frame, which names the row of the opcode table the frame spells
(R73, R129, R147, R184, R187). The table itself gives no row any bits, so `decodeTableWord` spells nothing. -/

namespace Sys2Proof

/-! ### Byte order: most significant byte first (10, opening) -/

/-- The two bytes of a 16-bit field. -/
def be16 (x : Half) : List Byte := [x.extractLsb' 8 8, x.extractLsb' 0 8]

/-- The three bytes of a client page number, top four bits zero (R191). -/
def be20 (x : BitVec 20) : List Byte := [(x.extractLsb' 16 4).setWidth 8, x.extractLsb' 8 8, x.extractLsb' 0 8]

/-- The four bytes of a client address. -/
def be32 (x : Addr) : List Byte :=
  [x.extractLsb' 24 8, x.extractLsb' 16 8, x.extractLsb' 8 8, x.extractLsb' 0 8]

/-- The six bytes of a fabric header's address field. -/
def be48 (x : BitVec 48) : List Byte :=
  [x.extractLsb' 40 8, x.extractLsb' 32 8, x.extractLsb' 24 8, x.extractLsb' 16 8, x.extractLsb' 8 8,
   x.extractLsb' 0 8]

/-- A 16-bit field from its two bytes. -/
def of16 (b1 b0 : Byte) : Half := b1 ++ b0

/-- A 32-bit field from its four bytes. -/
def of32 (b3 b2 b1 b0 : Byte) : Addr := b3 ++ b2 ++ b1 ++ b0

/-- A 48-bit field from its six bytes. -/
def of48 (b5 b4 b3 b2 b1 b0 : Byte) : BitVec 48 := b5 ++ b4 ++ b3 ++ b2 ++ b1 ++ b0

/-! ### The check word -/

/-- R180 step 3: one bit. The register shifts left and drops bit 15; where that bit and the covered bit differed it
is combined with 0x1DCF. -/
def checkBit (reg : Half) (bit : Bool) : Half :=
  if reg.msb == bit then reg <<< 1 else (reg <<< 1) ^^^ 0x1DCF#16

/-- R180 step 2: one byte, most significant bit first. -/
def checkByte (reg : Half) (b : Byte) : Half :=
  [7, 6, 5, 4, 3, 2, 1, 0].foldl (fun r i => checkBit r (b.getLsbD i)) reg

/-- R180: the check word over the covered bytes, in the order sent. -/
def checkWord (covered : List Byte) : Half := covered.foldl checkByte 0xFFFF#16

/-! ### Frames -/

/-- R181: what follows a header. `none` where the length fits no layout; `some none` for no payload. -/
def splitPayload (rest : List Byte) : Option (Option Payload) :=
  if rest.length = 0 then some none
  else if 3 ≤ rest.length ∧ rest.length ≤ Config.maxPayload + 2 then
    match rest.drop (rest.length - 2) with
    | [c1, c0] => some (some { bytes := rest.take (rest.length - 2), check := of16 c1 c0 })
    | _ => none
  else none

/-- A client packet as the Ingress Queue holds it: every header field and the payload, as received (R52, R182). -/
structure RxPacket where
  /-- Byte 0, the kind. -/
  kind : Byte
  /-- Byte 1, the stream byte with its four high bits. -/
  streamByte : Byte
  /-- Byte 2, the client tag. -/
  tag : Byte
  /-- Byte 3, the completion code byte, not examined in a request (R54). -/
  code : Byte
  /-- Bytes 4 to 5, the length field. -/
  length : Half
  /-- Bytes 6 to 9, the client address. -/
  address : Addr
  /-- The payload with its check, or none. -/
  payload : Option Payload
  deriving DecidableEq, Repr

/-- R51, R181: a client frame as a packet; `none` where its length fits no layout or its header check is not good. -/
def clientPacket (frame : List Byte) : Option RxPacket :=
  match frame with
  | k :: s :: t :: c :: l1 :: l0 :: a3 :: a2 :: a1 :: a0 :: h1 :: h0 :: rest =>
    if of16 h1 h0 = checkWord [k, s, t, c, l1, l0, a3, a2, a1, a0] then
      match splitPayload rest with
      | some payload =>
        some { kind := k, streamByte := s, tag := t, code := c, length := of16 l1 l0, address := of32 a3 a2 a1 a0,
               payload := payload }
      | none => none
    else none
  | _ => none

/-- R129, R148: the row of a COMMAND packet. Variants of one code are told apart by their selecting byte (R187). -/
def commandRow (source sequence : Byte) (payload : Option Payload) : Instr :=
  match payload with
  | none => .unknownCommand source sequence [] 0
  | some p =>
    match p.bytes with
    | [] => .unknownCommand source sequence [] p.check
    | code :: params =>
      let c : Command := { source := source, sequence := sequence, params := params, check := p.check }
      if code = 0x01 then .claim c
      else if code = 0x02 then .relinquish c
      else if code = 0x03 then .status c
      else if code = 0x10 then .openCmd c
      else if code = 0x11 then .close c
      else if code = 0x12 then .quiesce c
      else if code = 0x13 then .release c
      else if code = 0x14 then if c.first = some 2 then .resetFull c else .resetTraffic c
      else if code = 0x18 then .setTiming c
      else if code = 0x20 then .bindStream c
      else if code = 0x21 then .readStream c
      else if code = 0x22 then .setDomain c
      else if code = 0x23 then .readDomain c
      else if code = 0x30 then if c.first = some 0xFF then .installAny c else .install c
      else if code = 0x31 then .setPin c
      else if code = 0x32 then .readEntry c
      else if code = 0x33 then
        if c.first = some 2 then .invalidateDomain c
        else if c.first = some 3 then .invalidateRange c
        else if c.first = some 4 then .invalidateUnpinned c
        else if c.first = some 5 then .invalidateAll c
        else .invalidateIndex c
      else if code = 0x34 then .fence c
      else if code = 0x40 then if c.action = some 2 then .resolveDeny c else .resolveRetry c
      else if code = 0x41 then .readMisses c
      else if code = 0x50 then .logRead c
      else .unknownCommand source sequence (code :: params) p.check

/-- R73, R147, R181: the row a frame on the fabric link spells to the node `own`. Frame length and header check come
first, the destination second, the kind third. -/
def fabricRow (own : Byte) (frame : List Byte) : Instr :=
  match frame with
  | k :: st :: src :: dst :: tag :: sq :: l1 :: l0 :: a5 :: a4 :: a3 :: a2 :: a1 :: a0 :: h1 :: h0 :: rest =>
    if of16 h1 h0 = checkWord [k, st, src, dst, tag, sq, l1, l0, a5, a4, a3, a2, a1, a0] then
      match splitPayload rest with
      | none => .fabricBadFrame frame
      | some payload =>
        if dst ≠ own then .foreignPacket dst
        else
          let r : Response :=
            { source := src, tag := tag, status := st, address := of48 a5 a4 a3 a2 a1 a0, payload := payload }
          if k = 0x51 then .readData r
          else if k = 0x52 then .writeAck r
          else if k = 0x5F then .fabricError r
          else if k = 0x60 then commandRow src sq payload
          else .unsolicitedPacket src k
    else .fabricBadFrame frame
  | _ => .fabricBadFrame frame

/-! ### The host's question -/

/-- The command that a word spells by the bits of spec/opcode_table.json. The table gives bits to no row (every
row's "fields" is empty and none has "fixed"), so no word spells one (log entry 18). -/
def decodeTableWord (_nbits _w : Nat) : Option Instr := none

end Sys2Proof
end

