-- ==== Sys2Proof/Machine/State.lean ====
section
/-! DEFINITION. The state of the KH416 as plain data, block by block as 00, section 3 lays the part out, with the
reasons a step can stop and the state after reset (R25, R43, R63, R85, R111, R149, R163, R165, R179). -/

namespace Sys2Proof.Machine

/-! ### Vocabulary -/

/-- The kind of a client request (R66, R88). -/
inductive ReqKind where
  | read | write | postedWrite
  deriving DecidableEq, Repr

/-- The state of a link (R45, R165). -/
inductive Link where
  | down | up
  deriving DecidableEq, Repr

/-- RSTN and start-up (R165, R166). -/
inductive Phase where
  /-- RSTN is low; the traffic-lost flag formed at its assertion waits for the start-up that writes it (R164). -/
  | inReset (trafficLost : Bool)
  /-- Start-up is clearing the blocks; every link is held DOWN. -/
  | clearing
  /-- Start-up has ended: ticks are produced and the links may train. -/
  | running
  deriving DecidableEq, Repr

/-- A permission set drawn from R, W and P (R1, R32, R90). -/
structure Perms where
  r : Bool
  w : Bool
  p : Bool
  deriving DecidableEq, Repr

/-- The owner scope of an entry (R1). -/
inductive Scope where
  | domain (d : Domain)
  | shared
  deriving DecidableEq, Repr

/-- The size class of an entry (R2). -/
inductive SizeClass where
  | s4K | s32K | s256K | s2M
  deriving DecidableEq, Repr

/-- The state of a domain (R32). -/
inductive DomainState where
  | active | paused | barred
  deriving DecidableEq, Repr

/-- The miss policy of a domain (R32). -/
inductive MissPolicy where
  | hold | fail
  deriving DecidableEq, Repr

/-- The admission state (R152). -/
inductive Admission where
  | closed | opened | draining | quiesced
  deriving DecidableEq, Repr

/-- The tick period (R82). -/
inductive TickPeriod where
  | us1 | us8 | us64 | us512
  deriving DecidableEq, Repr

/-- The kind of the reset cause record (R164). -/
inductive ResetKind where
  | power | pin | full | traffic
  deriving DecidableEq, Repr

/-- The arbiter's requesters (R68). -/
inductive Requester where
  | cp (p : Port)
  | rp
  deriving DecidableEq, Repr

/-- The completion codes of a REFUSED completion (R182). -/
inductive RefusalCode where
  | notReady | busy | notBound | denied | noMap | access | missTimeout | upstreamTimeout | upstreamError
  | upstreamLost | malformed | reset
  deriving DecidableEq, Repr

/-- The reply statuses (R148). -/
inductive ReplyStatus where
  | ok | pending | aborted | inProgress | wrongState | badParam | overlap | pinLimit | stale | notOwner | busy
  | unknown
  deriving DecidableEq, Repr

/-- The fault kinds (R170). -/
inductive FaultKind where
  | checkError | overrun | strayResponse | upstreamProtocol | postedFailed | missExpired | refusal | unsolicited
  deriving DecidableEq, Repr

/-- The source of a fault record (R169). -/
inductive FaultSource where
  | port (p : Port)
  | fabric
  deriving DecidableEq, Repr

/-! ### Packets the part sends -/

/-- A packet on a client link (R182, R183). Its check words are computed when it is framed (`ClientPacket.frame`). -/
structure ClientPacket where
  kind : Byte
  streamByte : Byte
  tag : Byte
  code : Byte
  length : Half
  address : Addr
  payload : List Byte
  deriving DecidableEq, Repr

/-- A packet on the fabric link (R184, R185). Its check words are computed when it is framed
(`FabricPacket.frame`). -/
structure FabricPacket where
  kind : Byte
  status : Byte
  source : Byte
  destination : Byte
  tag : Byte
  sequence : Byte
  length : Half
  address : BitVec 48
  payload : List Byte
  deriving DecidableEq, Repr

/-- One packet handed to a link. -/
inductive Sent where
  /-- On the link of a client port. -/
  | client (p : Port) (packet : ClientPacket)
  /-- On the fabric link. -/
  | fabric (packet : FabricPacket)
  deriving DecidableEq, Repr

/-! ### Client ports (03) -/

/-- A well-formed client request past the checks of R54 (R58, R88, R104). `payload` is empty for a READ. -/
structure Request where
  kind : ReqKind
  port : Port
  stream : Stream
  tag : Byte
  address : Addr
  length : Half
  payload : List Byte
  deriving DecidableEq, Repr

/-- A staged request: the request with its domain, its translation and the stale mark (R58, R104). -/
structure Staged where
  req : Request
  domain : Domain
  node : Byte
  fabricAddress : FabricAddr
  entry : EntryIndex
  stale : Bool
  deriving DecidableEq, Repr

/-- A client port (R45). -/
structure PortState where
  link : Link
  queue : List RxPacket
  credits : Nat
  staging : Option Staged
  deriving DecidableEq, Repr

/-! ### Translation Unit (01) -/

/-- An entry of the Mapping Table (R1). -/
structure Entry where
  valid : Bool
  pinned : Bool
  scope : Scope
  size : SizeClass
  clientBase : Addr
  node : Byte
  fabricBase : FabricAddr
  perms : Perms
  hit : Bool
  deriving DecidableEq, Repr

/-- The Translation Unit: the Mapping Table and the clock pointer (R1, R10). -/
structure TransUnit where
  entries : Vector Entry 64
  clock : EntryIndex
  deriving DecidableEq, Repr

/-! ### Domain Unit (02) -/

/-- The settable fields of a domain record (R32). Its two counts are computed (R40, R41). -/
structure DomainRec where
  state : DomainState
  policy : MissPolicy
  ceiling : Perms
  quota : Byte
  limit : Byte
  report : Bool
  deriving DecidableEq, Repr

/-- The Domain Unit: the Stream Map, `none` being UNBOUND, and the Domain Table (R27, R32). -/
structure DomainUnit where
  streams : Vector (Vector (Option Domain) 16) 4
  domains : Vector DomainRec 16
  deriving DecidableEq, Repr

/-! ### Forwarding Unit (04, 06) -/

/-- A slot of the ORT (R66). -/
structure Slot where
  occupied : Bool
  incarnation : BitVec 3
  kind : ReqKind
  port : Port
  stream : Stream
  tag : Byte
  address : Addr
  domain : Domain
  node : Byte
  length : Half
  orphan : Bool
  timer : Byte
  deriving DecidableEq, Repr

/-- The command that made a fence record (R118). -/
inductive FenceCommand where
  | invalidate | fence
  deriving DecidableEq, Repr

/-- A fence record (R118). `id` is the model's own: the name by which a PENDING cache entry refers to the record
(R133, log entry 12). -/
structure FenceRec where
  id : Nat
  command : FenceCommand
  sequence : Byte
  node : Byte
  count : Nat
  captured : List SlotIndex
  deriving DecidableEq, Repr

/-- The Forwarding Unit: the ORT, the rotation pointer and the Fence List in order of creation (R66, R69, R118).
`nextFence` is the model's own: the id of the next fence record. -/
structure ForwardUnit where
  ort : Vector Slot 32
  pointer : Requester
  fences : List FenceRec
  nextFence : Nat
  deriving DecidableEq, Repr

/-! ### Miss unit (05) -/

/-- Where a Held Store slot stands (R88). -/
inductive Place where
  | held (ticket : Half)
  | replay
  deriving DecidableEq, Repr

/-- An occupied Held Store slot (R88). -/
structure HeldReq where
  req : Request
  domain : Domain
  place : Place
  deriving DecidableEq, Repr

/-- A live miss record (R90). Its held list is read from the Held Store (`State.heldOf`). -/
structure MissRec where
  ticket : Half
  domain : Domain
  page : BitVec 20
  wanted : Perms
  firstPort : Port
  firstStream : Stream
  timer : Byte
  deriving DecidableEq, Repr

/-- The miss unit (R88 to R92, R104). `held` lists the occupied Held Store slots: those of one ticket in arrival
order, those in the Replay Queue in queue order. -/
structure MissUnit where
  records : List MissRec
  held : List HeldReq
  rp : Option Staged
  ticket : Half
  deriving DecidableEq, Repr

/-! ### Management Controller (07, 08) -/

/-- The answer of a replay cache entry (R133). -/
inductive Answer where
  /-- A stored reply: its status and results. -/
  | stored (status : ReplyStatus) (results : List Byte)
  /-- PENDING, naming a fence record. -/
  | pendingFence (id : Nat)
  /-- PENDING, naming the pending QUIESCE. -/
  | pendingQuiesce
  deriving DecidableEq, Repr

/-- A replay cache entry (R133). -/
structure CacheEntry where
  source : Byte
  sequence : Byte
  code : Byte
  answer : Answer
  deriving DecidableEq, Repr

/-- The pending QUIESCE (R155). -/
structure PendingQuiesce where
  sequence : Byte
  node : Byte
  deriving DecidableEq, Repr

/-- The reset cause record (R164). -/
structure ResetCause where
  kind : ResetKind
  trafficLost : Bool
  deriving DecidableEq, Repr

/-- The Management Controller (07, 08). -/
structure ManageCtl where
  admission : Admission
  owner : Option Byte
  cache : Option CacheEntry
  quiesce : Option PendingQuiesce
  noticeSeq : Byte
  cause : ResetCause
  deriving DecidableEq, Repr

/-! ### Timebase and Fault Log (04 section 4.7, 09) -/

/-- The Timebase (R82). -/
structure TimeBase where
  period : TickPeriod
  missTimeout : Byte
  upstreamTimeout : Byte
  prescale : Nat
  deriving DecidableEq, Repr

/-- A fault record (R169). -/
structure FaultRec where
  sequence : Half
  kind : FaultKind
  source : FaultSource
  stream : Option Stream
  domain : Option Domain
  address : Option Addr
  ticket : Option Half
  tag : Option Byte
  code : Option Half
  deriving DecidableEq, Repr

/-- The Fault Log, records oldest first (R169, R172, R173). -/
structure FaultLog where
  records : List FaultRec
  overflow : Half
  sequence : Half
  deriving DecidableEq, Repr

/-! ### The part -/

/-- The whole part. `sent` and `pending` are the model's own: what the part has handed to its links, oldest first,
and the commands that wait, first in first out. -/
structure State where
  /-- CP0 to CP3. -/
  ports : Vector PortState 4
  /-- The state of the fabric link. -/
  fabric : Link
  /-- The strap as last sampled, NID0 its least significant bit (R165). -/
  strap : BitVec 4
  tu : TransUnit
  du : DomainUnit
  fu : ForwardUnit
  mu : MissUnit
  mc : ManageCtl
  tb : TimeBase
  fl : FaultLog
  phase : Phase
  sent : List Sent
  pending : List Instr
  deriving DecidableEq, Repr

/-- Why the part stops. No event of the spec stops it. -/
inductive Fault where
  /-- Raised by INSTALL_ANY where the clock sweep of R17 would never end: all 64 entries are valid and pinned. R3
  and R18 exclude that, so no state that keeps the pin limit raises it. Safe. -/
  | noVictim
  deriving DecidableEq, Repr

/-- Why a command has no meaning in the model. -/
inductive Refusal where
  /-- A row of the opcode table without a meaning yet, by its mnemonic; raised by `exec` alone. Safe. -/
  | notModelled (mnemonic : String)
  deriving DecidableEq, Repr

/-- What a step of the part answers. -/
abbrev Result := Host.Outcome State Fault Refusal

/-! ### Reset values -/

/-- The permission set {R, W, P}. -/
def Perms.all : Perms := { r := true, w := true, p := true }

/-- The empty permission set. -/
def Perms.none : Perms := { r := false, w := false, p := false }

/-- R63: a port after power-on or pin reset. -/
def PortState.cleared : PortState := { link := .down, queue := [], credits := 0, staging := none }

/-- R25: a cleared Mapping Table entry. -/
def Entry.cleared : Entry :=
  { valid := false, pinned := false, scope := .domain 0, size := .s4K, clientBase := 0, node := 0, fabricBase := 0,
    perms := Perms.none, hit := false }

/-- R25: the cleared Translation Unit. -/
def TransUnit.cleared : TransUnit := { entries := Vector.replicate 64 Entry.cleared, clock := 0 }

/-- R43: a cleared domain record. -/
def DomainRec.cleared : DomainRec :=
  { state := .barred, policy := .fail, ceiling := Perms.all, quota := Config.defaultQuota,
    limit := Config.defaultLimit, report := false }

/-- R43: the cleared Domain Unit. -/
def DomainUnit.cleared : DomainUnit :=
  { streams := Vector.replicate 4 (Vector.replicate 16 none), domains := Vector.replicate 16 DomainRec.cleared }

/-- R85: a free slot with incarnation 0 that is no orphan. DESIGN CHOICE (log entry 9): its other fields, which have
no effect (R66), are zero. -/
def Slot.cleared : Slot :=
  { occupied := false, incarnation := 0, kind := .read, port := 0, stream := 0, tag := 0, address := 0, domain := 0,
    node := 0, length := 0, orphan := false, timer := 0 }

/-- R85: the cleared Forwarding Unit. -/
def ForwardUnit.cleared : ForwardUnit :=
  { ort := Vector.replicate 32 Slot.cleared, pointer := .rp, fences := [], nextFence := 0 }

/-- R111: the cleared miss unit. -/
def MissUnit.cleared : MissUnit := { records := [], held := [], rp := none, ticket := 0 }

/-- R149, R152: the Management Controller after a start-up of the given cause. -/
def ManageCtl.cleared (cause : ResetCause) : ManageCtl :=
  { admission := .closed, owner := none, cache := none, quiesce := none, noticeSeq := 0, cause := cause }

/-- R82: the Timebase after power-on, pin reset and RESET FULL. -/
def TimeBase.defaults : TimeBase :=
  { period := .us64, missTimeout := Config.defaultMissTimeout, upstreamTimeout := Config.defaultUpstreamTimeout,
    prescale := 0 }

/-- R179: the Fault Log after power-on and pin reset. -/
def FaultLog.cleared : FaultLog := { records := [], overflow := 0, sequence := 0 }

/-- The machine right after a power-on reset: every block at its power-on values, the cause record POWER with flag no,
start-up ended and every link DOWN, waiting to train (R163, R165). DESIGN CHOICE (log entry 7): the strap reads 0. -/
def State.reset : State :=
  { ports := Vector.replicate 4 PortState.cleared
    fabric := .down
    strap := 0
    tu := TransUnit.cleared
    du := DomainUnit.cleared
    fu := ForwardUnit.cleared
    mu := MissUnit.cleared
    mc := ManageCtl.cleared { kind := .power, trafficLost := false }
    tb := TimeBase.defaults
    fl := FaultLog.cleared
    phase := .running
    sent := []
    pending := [] }

end Sys2Proof.Machine
end

