-- ==== Sys2Proof/Machine/Operands.lean ====
section
/-! DEFINITION. How the bytes of packets, parameters, results and records code values (R182, R184, R187 to R193),
and the well-formedness of a client packet (R54). A reading answers `none` for a value outside its coding (R188). -/

namespace Sys2Proof.Machine

/-! ### Codes the part writes -/

/-- One flag at bit `n` of a byte. -/
def flagBit (n : Nat) (b : Bool) : Byte := if b then 1#8 <<< n else 0

/-- R187: no 0, yes 1. -/
def boolByte (b : Bool) : Byte := if b then 1 else 0

/-- R182: the kind byte of a client request. -/
def ReqKind.clientCode : ReqKind → Byte
  | .read => 0x11
  | .write => 0x12
  | .postedWrite => 0x13

/-- R72, R184: the kind byte of the request sent upstream. -/
def ReqKind.fabricCode : ReqKind → Byte
  | .read => 0x41
  | .write => 0x42
  | .postedWrite => 0x43

/-- R60: READ and WRITE receive a completion, POSTED WRITE none. -/
def ReqKind.posted : ReqKind → Bool
  | .read => false
  | .write => false
  | .postedWrite => true

/-- R182: the completion codes. -/
def RefusalCode.byte : RefusalCode → Byte
  | .notReady => 0x01
  | .busy => 0x02
  | .notBound => 0x03
  | .denied => 0x04
  | .noMap => 0x05
  | .access => 0x06
  | .missTimeout => 0x07
  | .upstreamTimeout => 0x08
  | .upstreamError => 0x09
  | .upstreamLost => 0x0A
  | .malformed => 0x0B
  | .reset => 0x0C

/-- R42: the codes the report flag reports. -/
def RefusalCode.reported : RefusalCode → Bool
  | .denied => true
  | .noMap => true
  | .access => true
  | .notReady | .busy | .notBound | .missTimeout | .upstreamTimeout | .upstreamError | .upstreamLost | .malformed
  | .reset => false

/-- R148: the reply statuses. -/
def ReplyStatus.byte : ReplyStatus → Byte
  | .ok => 0x00
  | .pending => 0x01
  | .aborted => 0x02
  | .inProgress => 0x03
  | .wrongState => 0x04
  | .badParam => 0x05
  | .overlap => 0x06
  | .pinLimit => 0x07
  | .stale => 0x08
  | .notOwner => 0x09
  | .busy => 0x0A
  | .unknown => 0x0B

/-- R170: the fault kinds. -/
def FaultKind.byte : FaultKind → Byte
  | .checkError => 1
  | .overrun => 2
  | .strayResponse => 3
  | .upstreamProtocol => 4
  | .postedFailed => 5
  | .missExpired => 6
  | .refusal => 7
  | .unsolicited => 8

/-- A small number as a byte (port, stream, domain, entry index, a count of R187 and R193). -/
def numByte (n : Nat) : Byte := BitVec.ofNat 8 n

/-- R187: 0 to 3 for CP0 to CP3, 4 for FABRIC. -/
def FaultSource.byte : FaultSource → Byte
  | .port p => numByte p.val
  | .fabric => 4

/-- R187: bit 2 R, bit 1 W, bit 0 P. -/
def Perms.byte (p : Perms) : Byte := flagBit 2 p.r ||| flagBit 1 p.w ||| flagBit 0 p.p

/-- R187: the domain states. -/
def DomainState.byte : DomainState → Byte
  | .active => 0
  | .paused => 1
  | .barred => 2

/-- R187: the miss policies. -/
def MissPolicy.byte : MissPolicy → Byte
  | .hold => 0
  | .fail => 1

/-- R187: the admission states. -/
def Admission.byte : Admission → Byte
  | .closed => 0
  | .opened => 1
  | .draining => 2
  | .quiesced => 3

/-- R187: the tick period codes. -/
def TickPeriod.byte : TickPeriod → Byte
  | .us1 => 0
  | .us8 => 1
  | .us64 => 2
  | .us512 => 3

/-- R187: the reset cause kinds. -/
def ResetKind.byte : ResetKind → Byte
  | .power => 0
  | .pin => 1
  | .full => 2
  | .traffic => 3

/-- R189: the size class codes. -/
def SizeClass.code : SizeClass → Byte
  | .s4K => 0
  | .s32K => 1
  | .s256K => 2
  | .s2M => 3

/-- R187: a binding; 0xFF is UNBOUND. -/
def bindingByte : Option Domain → Byte
  | none => 0xFF
  | some d => numByte d.val

/-- R148: the command code of the command that made a fence record. -/
def FenceCommand.code : FenceCommand → Byte
  | .invalidate => 0x33
  | .fence => 0x34

/-! ### Sizes and periods -/

/-- R2: the length of an entry's ranges, in bytes, and the alignment of its bases. -/
def SizeClass.bytes : SizeClass → Nat
  | .s4K => 0x1000
  | .s32K => 0x8000
  | .s256K => 0x40000
  | .s2M => 0x200000

/-- R82: the prescale of a tick period, in reference clock cycles. -/
def TickPeriod.prescale : TickPeriod → Nat
  | .us1 => 25
  | .us8 => 200
  | .us64 => 1600
  | .us512 => 12800

/-! ### Permission sets -/

/-- R6: the intersection of two permission sets. -/
def Perms.inter (a b : Perms) : Perms := { r := a.r && b.r, w := a.w && b.w, p := a.p && b.p }

/-- R94: the union of two permission sets. -/
def Perms.union (a b : Perms) : Perms := { r := a.r || b.r, w := a.w || b.w, p := a.p || b.p }

/-- R90: what a request adds to the wanted access of its miss record. -/
def ReqKind.need : ReqKind → Perms
  | .read => { r := true, w := false, p := false }
  | .write => { r := false, w := true, p := false }
  | .postedWrite => { r := false, w := true, p := true }

/-- R6: the permissions a kind needs are all present. -/
def Perms.allows (perms : Perms) : ReqKind → Bool
  | .read => perms.r
  | .write => perms.w
  | .postedWrite => perms.w && perms.p

/-! ### Parameters -/

/-- A byte as a number below `n`. -/
def finOf (n : Nat) (b : Byte) : Option (Fin n) := if h : b.toNat < n then some ⟨b.toNat, h⟩ else none

/-- R187: a port parameter. -/
def portOf (b : Byte) : Option Port := finOf 4 b

/-- R29: a stream parameter. -/
def streamOf (b : Byte) : Option Stream := finOf 16 b

/-- R33: a domain parameter. -/
def domainOf (b : Byte) : Option Domain := finOf 16 b

/-- R21, R22, R114: an entry index parameter. -/
def indexOf (b : Byte) : Option EntryIndex := finOf 64 b

/-- R187: a yes or no parameter. -/
def boolOf (b : Byte) : Option Bool := if b = 0 then some false else if b = 1 then some true else none

/-- R187: the binding of BIND STREAM; 0xFF is NONE. -/
def bindingOf (b : Byte) : Option (Option Domain) :=
  if b = 0xFF then some none
  else match domainOf b with
    | some d => some (some d)
    | none => none

/-- R187: the scope of INVALIDATE RANGE; 0xFF is SHARED. -/
def scopeOf (b : Byte) : Option Scope :=
  if b = 0xFF then some .shared
  else match domainOf b with
    | some d => some (.domain d)
    | none => none

/-- R187, R188: a permission byte; bits 7 to 3 must be zero. -/
def permsOf (b : Byte) : Option Perms :=
  if b.toNat < 8 then some { r := b.getLsbD 2, w := b.getLsbD 1, p := b.getLsbD 0 } else none

/-- R187: a domain state. -/
def domainStateOf (b : Byte) : Option DomainState :=
  if b = 0 then some .active else if b = 1 then some .paused else if b = 2 then some .barred else none

/-- R187: a miss policy. -/
def policyOf (b : Byte) : Option MissPolicy := if b = 0 then some .hold else if b = 1 then some .fail else none

/-- R187: a tick period code. -/
def periodOf (b : Byte) : Option TickPeriod :=
  if b = 0 then some .us1 else if b = 1 then some .us8 else if b = 2 then some .us64
  else if b = 3 then some .us512 else none

/-- R189: a size class code, 0 to 3; 4 to 7 name none (R190). -/
def sizeOf (code : Nat) : Option SizeClass :=
  match code with
  | 0 => some .s4K
  | 1 => some .s32K
  | 2 => some .s256K
  | 3 => some .s2M
  | _ => none

/-- R33: a value within bounds. -/
def rangeOf (lo hi : Nat) (b : Byte) : Option Byte := if lo ≤ b.toNat ∧ b.toNat ≤ hi then some b else none

/-! ### SET DOMAIN and INSTALL parameters -/

/-- R33: the parameters of SET DOMAIN; `none` for BAD_PARAM. -/
def setDomainOf (params : List Byte) : Option (Domain × DomainRec) :=
  match params with
  | [d, st, pol, ceil, q, l, rep] =>
    match domainOf d, domainStateOf st, policyOf pol, permsOf ceil, rangeOf 1 16 q, rangeOf 1 32 l, boolOf rep with
    | some d, some st, some pol, some ceil, some q, some l, some rep =>
      some (d, { state := st, policy := pol, ceiling := ceil, quota := q, limit := l, report := rep })
    | _, _, _, _, _, _, _ => none
  | _ => none

/-- R84 step 1: the parameters of SET TIMING as period, miss timeout and upstream timeout; `none` for BAD_PARAM. -/
def setTimingOf (params : List Byte) : Option (TickPeriod × Byte × Byte) :=
  match params with
  | [p, m, u] =>
    match periodOf p, rangeOf 1 255 m, rangeOf 1 255 u with
    | some p, some m, some u => some (p, m, u)
    | _, _, _ => none
  | _ => none

/-- R190: the fields INSTALL reads from a mapping entry record. -/
structure InstallArgs where
  index : Byte
  scope : Scope
  size : SizeClass
  clientBase : Addr
  node : Byte
  fabricBase : BitVec 48
  perms : Perms
  pin : Bool
  ticket : Option Half
  deriving DecidableEq, Repr

/-- R190: the resolve ticket. The outer `none` is the malformed absence: the ticket absent bit with bytes 14 to 15
other than 0xFFFF. -/
def ticketOf (absent : Bool) (t : Half) : Option (Option Half) :=
  if absent then (if t = 0xFFFF then some none else none) else some (some t)

/-- R189, R190: a mapping entry record as INSTALL reads it; `none` where its width, its size class code or its ticket
gets BAD_PARAM. The valid, pinned and hit bits are not examined; nor are the domain bits of a SHARED record. -/
def installOf (params : List Byte) : Option InstallArgs :=
  match params with
  | [i, f, g, n, c3, c2, c1, c0, b5, b4, b3, b2, b1, b0, t1, t0] =>
    match sizeOf ((g.toNat / 16) % 8), ticketOf (g.getLsbD 7) (of16 t1 t0) with
    | some size, some ticket =>
      some { index := i
             scope := if f.getLsbD 5 then .shared else .domain ⟨g.toNat % 16, Nat.mod_lt _ (by decide)⟩
             size := size
             clientBase := of32 c3 c2 c1 c0
             node := n
             fabricBase := of48 b5 b4 b3 b2 b1 b0
             perms := { r := f.getLsbD 3, w := f.getLsbD 2, p := f.getLsbD 1 }
             pin := f.getLsbD 0
             ticket := ticket }
    | _, _ => none
  | _ => none

/-- R12: the parameter checks of INSTALL other than the index, against the part's own node. -/
def InstallArgs.bad (own : Byte) (a : InstallArgs) : Bool :=
  a.clientBase.toNat % a.size.bytes != 0
    || a.fabricBase.toNat % a.size.bytes != 0
    || 2 ^ 44 < a.fabricBase.toNat + a.size.bytes
    || a.node == own
    || !(a.perms.r || a.perms.w)
    || (a.perms.p && !a.perms.w)

/-- R190: the mapping entry record READ ENTRY returns for entry `i`. -/
def Entry.record (i : EntryIndex) (e : Entry) : List Byte :=
  let shared := e.scope == .shared
  let domain : Nat := match e.scope with | .domain d => d.val | .shared => 0
  [numByte i.val,
   flagBit 7 e.valid ||| flagBit 6 e.pinned ||| flagBit 5 shared ||| flagBit 4 e.hit ||| flagBit 3 e.perms.r
     ||| flagBit 2 e.perms.w ||| flagBit 1 e.perms.p,
   0x80 ||| (e.size.code <<< 4) ||| numByte domain,
   e.node]
  ++ be32 e.clientBase ++ be48 (e.fabricBase.setWidth 48) ++ [0xFF, 0xFF]

/-! ### Client packets -/

/-- R54, R182: the kind of a request; every other code is unknown. -/
def reqKindOf (b : Byte) : Option ReqKind :=
  if b = 0x11 then some .read else if b = 0x12 then some .write else if b = 0x13 then some .postedWrite else none

end Sys2Proof.Machine

namespace Sys2Proof

open Machine

/-- R54: the payload check that follows the payload is not good. -/
def RxPacket.checkFails (pkt : RxPacket) : Bool :=
  match pkt.payload with
  | some pl => pl.check != checkWord pl.bytes
  | none => false

/-- R54: the payload conditions of each kind. -/
def RxPacket.payloadBad (pkt : RxPacket) : ReqKind → Bool
  | .read => pkt.payload.isSome
  | .write | .postedWrite =>
    match pkt.payload with
    | none => true
    | some pl => pl.bytes.length != pkt.length.toNat || pl.check != checkWord pl.bytes

/-- R54: the conditions that apply to every packet. -/
def RxPacket.headerBad (pkt : RxPacket) : Bool :=
  16 ≤ pkt.streamByte.toNat || pkt.length.toNat == 0 || Config.maxPayload < pkt.length.toNat
    || Config.pageBytes < pkt.address.toNat % Config.pageBytes + pkt.length.toNat

/-- R54, R58: the request a packet of port `p` carries; `none` where the packet is MALFORMED. -/
def RxPacket.request (p : Port) (pkt : RxPacket) : Option Request :=
  match reqKindOf pkt.kind with
  | none => none
  | some k =>
    if pkt.headerBad || pkt.payloadBad k then none
    else
      some { kind := k, port := p, stream := ⟨pkt.streamByte.toNat % 16, Nat.mod_lt _ (by decide)⟩, tag := pkt.tag,
             address := pkt.address, length := pkt.length,
             payload := match pkt.payload with | some pl => pl.bytes | none => [] }

/-- R54: a packet of unknown kind is non-posted. -/
def RxPacket.posted (pkt : RxPacket) : Bool := pkt.kind == 0x13

end Sys2Proof

namespace Sys2Proof.Machine

/-- R4, R90: the client page of an address. -/
def pageOf (a : Addr) : BitVec 20 := a.extractLsb' 12 20

/-- R98: the client address of the first byte of a page. -/
def pageBase (page : BitVec 20) : Addr := page ++ 0#12

/-! ### Frames the part sends -/

/-- A payload behind its check (R180); nothing where there is no payload (R181). -/
def payloadFrame (payload : List Byte) : List Byte :=
  match payload with
  | [] => []
  | b :: rest => (b :: rest) ++ be16 (checkWord (b :: rest))

/-- R182: the header of a client packet before its check. -/
def ClientPacket.header (p : ClientPacket) : List Byte :=
  [p.kind, p.streamByte, p.tag, p.code] ++ be16 p.length ++ be32 p.address

/-- R180, R182: the bytes of a packet on a client link. -/
def ClientPacket.frame (p : ClientPacket) : List Byte :=
  p.header ++ be16 (checkWord p.header) ++ payloadFrame p.payload

/-- R184: the header of a fabric packet before its check. -/
def FabricPacket.header (p : FabricPacket) : List Byte :=
  [p.kind, p.status, p.source, p.destination, p.tag, p.sequence] ++ be16 p.length ++ be48 p.address

/-- R180, R184: the bytes of a packet on the fabric link. -/
def FabricPacket.frame (p : FabricPacket) : List Byte :=
  p.header ++ be16 (checkWord p.header) ++ payloadFrame p.payload

end Sys2Proof.Machine
end

