-- ==== Sys2Proof/Machine/Flags.lean ====
section
/-! DEFINITION. What is read off the state: counts (R3, R40, R41, R66, R89), the conditions `drained` (R156), `quiet`
(R157) and `idle` (R84), the traffic-lost flag (R164), and the link states byte of STATUS (R193). -/

namespace Sys2Proof.Machine

/-- R165: the part's own node number, 128 plus the strap value. -/
def State.ownNode (s : State) : Byte := Config.firstNode + s.strap.setWidth 8

/-- R3: the pinned count, over the entries other than those `skip` names. -/
def State.pinnedBut (skip : EntryIndex → Bool) (s : State) : Nat :=
  (List.finRange 64).countP fun i => !skip i && s.tu.entries[i].valid && s.tu.entries[i].pinned

/-- R3: the pinned count. -/
def State.pinnedCount (s : State) : Nat := s.pinnedBut fun _ => false

/-- R66: the ORT occupancy. -/
def State.ortOccupancy (s : State) : Nat := (List.finRange 32).countP fun i => s.fu.ort[i].occupied

/-- R41: the ORT slots in use by a domain, orphans among them. -/
def State.ortUse (d : Domain) (s : State) : Nat :=
  (List.finRange 32).countP fun i => s.fu.ort[i].occupied && s.fu.ort[i].domain == d

/-- The occupied ORT slots in ascending order: what a fence captures (R120). -/
def State.occupiedSlots (s : State) : List SlotIndex := (List.finRange 32).filter fun i => s.fu.ort[i].occupied

/-- R40: the live miss records of a domain. -/
def State.liveMisses (d : Domain) (s : State) : Nat := s.mu.records.countP fun r => r.domain == d

/-- R90: the held list of a ticket, in arrival order. -/
def State.heldOf (t : Half) (s : State) : List HeldReq := s.mu.held.filter fun h => h.place == .held t

/-- R103: the Replay Queue. -/
def State.replayQueue (s : State) : List HeldReq := s.mu.held.filter fun h => h.place == .replay

/-- The live record with this ticket (R91). -/
def State.recordOf (t : Half) (s : State) : Option MissRec := s.mu.records.find? fun r => r.ticket == t

/-- R4: the entries a lookup of domain `d` can match. -/
def Scope.sees (sc : Scope) (d : Domain) : Bool :=
  match sc with
  | .shared => true
  | .domain e => e == d

/-- R4: the entry matches a lookup of domain `d` at address `a`. -/
def Entry.matchesAt (d : Domain) (a : Addr) (e : Entry) : Bool :=
  e.valid && e.scope.sees d && e.clientBase.toNat ≤ a.toNat && a.toNat < e.clientBase.toNat + e.size.bytes

/-- R115: the entry's client range overlaps `[base, base + length)`. -/
def Entry.overlaps (base length : Nat) (e : Entry) : Bool :=
  e.clientBase.toNat < base + length && base < e.clientBase.toNat + e.size.bytes

/-- R13: two scopes under which an overlap is a conflict. -/
def Scope.meets (a b : Scope) : Bool :=
  match a, b with
  | .shared, _ => true
  | _, .shared => true
  | .domain d, .domain e => d == e

/-- R13: a new range of scope `sc` conflicts with entry `e`. -/
def Entry.conflicts (sc : Scope) (base length : Nat) (e : Entry) : Bool :=
  e.valid && sc.meets e.scope && e.overlaps base length

/-- Every staging position is empty, RP among them. -/
def State.stagingEmpty (s : State) : Bool :=
  (List.finRange 4).all (fun p => s.ports[p].staging.isNone) && s.mu.rp.isNone

/-- R156: the part is drained. -/
def State.drained (s : State) : Bool :=
  s.ortOccupancy == 0 && s.stagingEmpty && s.mu.held.isEmpty && s.mu.records.isEmpty

/-- R84: the part is idle. -/
def State.idle (s : State) : Bool :=
  (s.mc.admission == .closed || s.mc.admission == .quiesced)
    && s.ortOccupancy == 0 && s.stagingEmpty && s.mu.held.isEmpty && s.mu.records.isEmpty

/-- R164: the traffic-lost flag as formed before anything is emptied. -/
def State.trafficLost (s : State) : Bool :=
  s.ortOccupancy != 0 || !s.stagingEmpty || (List.finRange 4).any (fun p => !s.ports[p].queue.isEmpty)
    || !s.mu.held.isEmpty

/-- R122: a fence record whose captured set has emptied. -/
def FenceRec.due (f : FenceRec) : Bool := f.captured.isEmpty

/-- Some fence record is due (R122). -/
def State.fenceDue (s : State) : Bool := s.fu.fences.any FenceRec.due

/-- R125, R156, R157: the part is drained, and no fence record is left whose captured set has emptied and whose reply is
still to be sent. It is what the MC judges (log entry 6). -/
def State.quiet (s : State) : Bool := s.drained && !s.fenceDue

/-- R139: a deferred reply is pending. -/
def State.replyPending (s : State) : Bool := !s.fu.fences.isEmpty || s.mc.quiesce.isSome

/-- R193: the link states byte. -/
def State.linkByte (s : State) : Byte :=
  flagBit 0 (s.ports[0].link == .up) ||| flagBit 1 (s.ports[1].link == .up) ||| flagBit 2 (s.ports[2].link == .up)
    ||| flagBit 3 (s.ports[3].link == .up) ||| flagBit 4 (s.fabric == .up)

end Sys2Proof.Machine
end

