-- ==== Sys2Proof/Machine/Ops.lean ====
section
/-! DEFINITION. The named operations over the part's state that the meanings share: sending packets (R60, R72, R130,
R145), appending faults (R172 to R176), refusing requests (R42), lookups (R4 to R7), stale marking (R23), taking a
miss (R92 to R96), ending held requests (R101, R102), freeing slots and replying to fences (R81, R122, R135). -/

namespace Sys2Proof.Machine

/-! ### Tables and updates -/

/-- A table with `f` applied to every entry. -/
def mapTable {α β : Type} {n : Nat} (f : α → β) (v : Vector α n) : Vector β n := Vector.ofFn fun i => f v[i]

/-- The state with port `p` changed by `f`. -/
def State.updPort (p : Port) (f : PortState → PortState) (s : State) : State :=
  { s with ports := s.ports.set p.val (f s.ports[p]) p.isLt }

/-- The state with ORT slot `i` changed by `f`. -/
def State.updSlot (i : SlotIndex) (f : Slot → Slot) (s : State) : State :=
  { s with fu := { s.fu with ort := s.fu.ort.set i.val (f s.fu.ort[i]) i.isLt } }

/-- The state with Mapping Table entry `i` changed by `f`. -/
def State.updEntry (i : EntryIndex) (f : Entry → Entry) (s : State) : State :=
  { s with tu := { s.tu with entries := s.tu.entries.set i.val (f s.tu.entries[i]) i.isLt } }

/-- The state with the staging position of port `p` at `q`. -/
def State.setStaging (p : Port) (q : Option Staged) (s : State) : State :=
  s.updPort p fun c => { c with staging := q }

/-- The state with RP at `q`. -/
def State.setRp (q : Option Staged) (s : State) : State := { s with mu := { s.mu with rp := q } }

/-- The state with the admission state at `a`. -/
def State.setAdmission (a : Admission) (s : State) : State := { s with mc := { s.mc with admission := a } }

/-- The state with the replay cache at `c`. -/
def State.setCache (c : Option CacheEntry) (s : State) : State := { s with mc := { s.mc with cache := c } }

/-! ### Sending -/

/-- One packet handed to a link. -/
def State.emit (x : Sent) (s : State) : State := { s with sent := s.sent ++ [x] }

/-- R60: a packet handed to a client port; a port whose link is DOWN discards it (R47). -/
def sendClient (p : Port) (pkt : ClientPacket) (s : State) : State :=
  if s.ports[p].link = .up then s.emit (.client p pkt) else s

/-- R72, R130, R145: a packet handed to the fabric port; nothing leaves while the fabric link is DOWN (R167). -/
def sendFabric (pkt : FabricPacket) (s : State) : State := if s.fabric = .up then s.emit (.fabric pkt) else s

/-- R61, R183: a CREDIT packet granting `n`. -/
def creditPacket (n : Nat) : ClientPacket :=
  { kind := 0x30, streamByte := 0, tag := 0, code := 0, length := BitVec.ofNat 16 n, address := 0, payload := [] }

/-- R60, R183: a completion of a request. -/
def completion (kind code : Byte) (payload : List Byte) (r : Request) : ClientPacket :=
  { kind := kind, streamByte := numByte r.stream.val, tag := r.tag, code := code, length := r.length,
    address := r.address, payload := payload }

/-- R183: the REFUSED completion of a request. -/
def refusedPacket (code : RefusalCode) (r : Request) : ClientPacket := completion 0x2F code.byte [] r

/-- R183: the REFUSED completion of a packet still in an Ingress Queue, echoing its fields as received (R54). -/
def refusedRaw (code : RefusalCode) (pkt : RxPacket) : ClientPacket :=
  { kind := 0x2F, streamByte := pkt.streamByte, tag := pkt.tag, code := code.byte, length := pkt.length,
    address := pkt.address, payload := [] }

/-- R61: a CREDIT granting `n`, which raises the port's credit count by `n`. -/
def grantCredit (p : Port) (n : Nat) (s : State) : State :=
  (sendClient p (creditPacket n) s).updPort p fun c => { c with credits := c.credits + n }

/-- R185: the header and payload of a packet of the management traffic. -/
def managePacket (kind status own destination sequence : Byte) (payload : List Byte) : FabricPacket :=
  { kind := kind, status := status, source := own, destination := destination, tag := 0, sequence := sequence,
    length := BitVec.ofNat 16 payload.length, address := 0, payload := payload }

/-- R130, R187: a REPLY: the echoed code, then the results. -/
def replyPacket (own destination sequence code : Byte) (status : ReplyStatus) (results : List Byte) : FabricPacket :=
  managePacket 0x61 status.byte own destination sequence (code :: results)

/-- R130: the MC hands a REPLY to the fabric port. -/
def sendReply (destination sequence code : Byte) (status : ReplyStatus) (results : List Byte) (s : State) : State :=
  sendFabric (replyPacket s.ownNode destination sequence code status results) s

/-- R145, R146, R167, R176: a NOTICE to the owner under the next notice sequence number. With no owner, or while the
fabric link is DOWN, nothing is sent and the counter stays. -/
def sendNotice (payload : List Byte) (s : State) : State :=
  match s.mc.owner with
  | none => s
  | some o =>
    if s.fabric = .up then
      let s1 := s.emit (.fabric (managePacket 0x62 0 s.ownNode o s.mc.noticeSeq payload))
      { s1 with mc := { s1.mc with noticeSeq := s1.mc.noticeSeq + 1 } }
    else s

/-! ### The Fault Log -/

/-- A fault of a kind and source with no optional field. Its sequence is written when it is appended (R172). -/
def bareFault (kind : FaultKind) (source : FaultSource) : FaultRec :=
  { sequence := 0, kind := kind, source := source, stream := none, domain := none, address := none, ticket := none,
    tag := none, code := none }

/-- R191: the payload of a FAULT notice. -/
def faultNotice (r : FaultRec) : List Byte := [2] ++ be16 r.sequence ++ [r.kind.byte, r.source.byte]

/-- R172 to R175: a fault is handed to the Fault Log. It takes the next sequence number; with room it is appended,
and an append into an empty log raises the FAULT notice; with 16 records it is dropped and counted, the count
saturating. -/
def logFault (f : FaultRec) (s : State) : State :=
  let r := { f with sequence := s.fl.sequence }
  if s.fl.records.length < Config.logCapacity then
    let s1 := { s with fl := { s.fl with records := s.fl.records ++ [r], sequence := s.fl.sequence + 1 } }
    if s.fl.records.isEmpty then sendNotice (faultNotice r) s1 else s1
  else
    { s with fl := { s.fl with overflow := if s.fl.overflow = 0xFFFF then 0xFFFF else s.fl.overflow + 1,
                               sequence := s.fl.sequence + 1 } }

/-- R170: a CHECK_ERROR record. -/
def checkErrorFault (source : FaultSource) : FaultRec := bareFault .checkError source

/-- R170: an OVERRUN record. -/
def overrunFault (p : Port) : FaultRec := bareFault .overrun (.port p)

/-- R170, R171: a STRAY_RESPONSE record. -/
def strayFault (tag source : Byte) : FaultRec :=
  { bareFault .strayResponse .fabric with tag := some tag, code := some (source.setWidth 16) }

/-- R170, R171: an UNSOLICITED record. -/
def unsolicitedFault (source : Byte) : FaultRec :=
  { bareFault .unsolicited .fabric with code := some (source.setWidth 16) }

/-- R67: the upstream tag of a slot: slot number times 8 plus incarnation. -/
def upstreamTag (i : SlotIndex) (incarnation : BitVec 3) : Byte := numByte (i.val * 8 + incarnation.toNat)

/-- R170: an UPSTREAM_PROTOCOL record of slot `i`. -/
def protocolFault (i : SlotIndex) (sl : Slot) : FaultRec :=
  { bareFault .upstreamProtocol (.port sl.port) with
    tag := some (upstreamTag i sl.incarnation), stream := some sl.stream }

/-- R170, R171: a POSTED_FAILED record of a slot. -/
def postedFault (sl : Slot) (code : Half) : FaultRec :=
  { bareFault .postedFailed (.port sl.port) with
    stream := some sl.stream, domain := some sl.domain, address := some sl.address, code := some code }

/-- R98, R170: a MISS_EXPIRED record. -/
def expiredFault (m : MissRec) : FaultRec :=
  { bareFault .missExpired (.port m.firstPort) with
    ticket := some m.ticket, domain := some m.domain, address := some (pageBase m.page) }

/-- R42, R170: a REFUSAL record. -/
def refusalFault (d : Domain) (r : Request) (code : RefusalCode) : FaultRec :=
  { bareFault .refusal (.port r.port) with
    stream := some r.stream, domain := some d, address := some r.address, code := some (code.byte.setWidth 16) }

/-! ### Refusing requests -/

/-- "Refused CODE" (00, section 5): a non-posted request receives a REFUSED completion, a posted one is dropped. -/
def endRequest (code : RefusalCode) (r : Request) (s : State) : State :=
  if r.kind.posted then s else sendClient r.port (refusedPacket code r) s

/-- R42: a refusal ACCESS, NO_MAP or DENIED of a domain whose report flag is yes appends a REFUSAL record. -/
def reportRefusal (code : RefusalCode) (d : Domain) (r : Request) (s : State) : State :=
  if s.du.domains[d].report && code.reported then logFault (refusalFault d r code) s else s

/-- R42: a request of domain `d` is refused: its completion first, then its REFUSAL record (R195). -/
def refuse (code : RefusalCode) (d : Domain) (r : Request) (s : State) : State :=
  reportRefusal code d r (endRequest code r s)

/-! ### Lookups -/

/-- R7: the outcome of a lookup. -/
inductive Lookup where
  | hitAllowed (node : Byte) (fabricAddress : FabricAddr) (entry : EntryIndex)
  | hitRefused
  | miss
  deriving DecidableEq, Repr

/-- R4: the entry a lookup hits; by the overlap law there is at most one. -/
def State.matching (d : Domain) (a : Addr) (s : State) : Option EntryIndex :=
  (List.finRange 64).find? fun i => s.tu.entries[i].matchesAt d a

/-- R5: the fabric address of client address `a` through an entry. -/
def Entry.translate (e : Entry) (a : Addr) : FabricAddr := e.fabricBase + (a - e.clientBase).setWidth 44

/-- R6: the effective permissions of an entry for a domain. -/
def State.effective (d : Domain) (e : Entry) (s : State) : Perms := e.perms.inter s.du.domains[d].ceiling

/-- R4 to R7: a lookup of domain `d` at address `a` for a request of kind `k`. -/
def lookup (d : Domain) (a : Addr) (k : ReqKind) (s : State) : Lookup :=
  match s.matching d a with
  | none => .miss
  | some i =>
    let e := s.tu.entries[i]
    if (s.effective d e).allows k then .hitAllowed e.node (e.translate a) i else .hitRefused

/-- R7: an allowed hit sets the entry's hit flag. -/
def setHit (i : EntryIndex) (s : State) : State := s.updEntry i fun e => { e with hit := true }

/-- The staged request a lookup's translation makes, not stale (R57, R105). -/
def stagedOf (r : Request) (d : Domain) (node : Byte) (fa : FabricAddr) (i : EntryIndex) : Staged :=
  { req := r, domain := d, node := node, fabricAddress := fa, entry := i, stale := false }

/-! ### Stale marking -/

/-- A staged request marked stale where `hits` names it. -/
def Staged.mark (hits : Staged → Bool) (q : Staged) : Staged := if hits q then { q with stale := true } else q

/-- R23, R30, R34: every staged request in the five staging positions that `hits` names is marked stale. -/
def markStale (hits : Staged → Bool) (s : State) : State :=
  { s with
    ports := mapTable (fun c => { c with staging := c.staging.map (Staged.mark hits) }) s.ports
    mu := { s.mu with rp := s.mu.rp.map (Staged.mark hits) } }

/-- R23: marking by a changed entry. -/
def throughEntry (i : EntryIndex) (q : Staged) : Bool := q.entry == i

/-- R30: marking by a rebound stream. -/
def ofStream (p : Port) (st : Stream) (q : Staged) : Bool := q.req.port == p && q.req.stream == st

/-- R34: marking by a written domain record. -/
def ofDomain (d : Domain) (q : Staged) : Bool := q.domain == d

/-! ### Taking a miss -/

/-- R92: the first value from `c` upward that no live record holds, within `n` increases. -/
def freshTicket (live : List Half) : Nat → Half → Half
  | 0, c => c
  | n + 1, c => if live.contains c then freshTicket live n (c + 1) else c

/-- R92: the ticket the next creation uses. -/
def State.nextTicket (s : State) : Half :=
  freshTicket (s.mu.records.map MissRec.ticket) (s.mu.records.length + 1) s.mu.ticket

/-- R93: how the miss unit decides a handed-over miss. -/
inductive MissDecision where
  | refused (code : RefusalCode)
  | join (ticket : Half)
  | create
  deriving DecidableEq, Repr

/-- R93: the live record of a domain and page. -/
def State.recordAt (d : Domain) (page : BitVec 20) (s : State) : Option MissRec :=
  s.mu.records.find? fun m => m.domain == d && m.page == page

/-- R93: the eight steps, in order. -/
def decideMiss (r : Request) (d : Domain) (s : State) : MissDecision :=
  if s.du.domains[d].policy = .fail then .refused .noMap
  else if s.mc.owner = none then .refused .noMap
  else
    match s.recordAt d (pageOf r.address) with
    | some m => if s.mu.held.length < Config.heldCapacity then .join m.ticket else .refused .busy
    | none =>
      if Config.missCapacity ≤ s.mu.records.length then .refused .busy
      else if s.du.domains[d].quota.toNat ≤ s.liveMisses d then .refused .busy
      else if Config.heldCapacity ≤ s.mu.held.length then .refused .busy
      else .create

/-- R94: the request joins the live record with this ticket and widens its wanted access. -/
def joinMiss (r : Request) (d : Domain) (t : Half) (s : State) : State :=
  { s with mu := { s.mu with
    held := s.mu.held ++ [{ req := r, domain := d, place := .held t }]
    records := s.mu.records.map fun m =>
      if m.ticket = t then { m with wanted := m.wanted.union r.kind.need } else m } }

/-- R191: the payload of a MISS notice. -/
def missNotice (m : MissRec) : List Byte :=
  [1] ++ be16 m.ticket ++ [numByte m.domain.val] ++ be20 m.page
    ++ [m.wanted.byte, numByte m.firstPort.val, numByte m.firstStream.val]

/-- R95: the record a creation writes. -/
def newRecord (r : Request) (d : Domain) (s : State) : MissRec :=
  { ticket := s.nextTicket, domain := d, page := pageOf r.address, wanted := r.kind.need, firstPort := r.port,
    firstStream := r.stream, timer := s.tb.missTimeout }

/-- R92, R95, R96: a record is created, the ticket counter goes past its ticket, and the MISS notice is sent. -/
def createMiss (r : Request) (d : Domain) (s : State) : State :=
  let m := newRecord r d s
  sendNotice (missNotice m)
    { s with mu := { s.mu with
      held := s.mu.held ++ [{ req := r, domain := d, place := .held m.ticket }]
      records := s.mu.records ++ [m]
      ticket := m.ticket + 1 } }

/-- R57, R93: a miss handed to the miss unit: taken, or refused with the code it names. -/
def takeMiss (r : Request) (d : Domain) (s : State) : State :=
  match decideMiss r d s with
  | .refused code => refuse code d r s
  | .join t => joinMiss r d t s
  | .create => createMiss r d s

/-! ### Miss records and the Replay Queue -/

/-- R91: the record with this ticket leaves the Miss List, and the requests still held under it leave the Held
Store. -/
def freeRecord (t : Half) (s : State) : State :=
  { s with mu := { s.mu with
    records := s.mu.records.filter fun m => m.ticket != t
    held := s.mu.held.filter fun h => h.place != .held t } }

/-- R101: a live record is denied: each held request is refused DENIED in held-list order, then the record is freed. -/
def denyRecord (m : MissRec) (s : State) : State :=
  freeRecord m.ticket ((s.heldOf m.ticket).foldl (fun s h => refuse .denied h.domain h.req s) s)

/-- R102: the held list of a ticket moves to the tail of the Replay Queue, and the record is freed. -/
def retryRecord (t : Half) (s : State) : State :=
  { s with mu := { s.mu with
    records := s.mu.records.filter fun m => m.ticket != t
    held := s.mu.held.filter (fun h => h.place != .held t)
      ++ (s.heldOf t).map fun h => { h with place := .replay } } }

/-- R105, R106: the first entry of the Replay Queue leaves it and frees its Held Store slot, and RP empties. -/
def popReplay (s : State) : State :=
  { s with mu := { s.mu with held := s.mu.held.eraseP (fun h => h.place == .replay), rp := none } }

/-! ### Deferred replies and fences -/

/-- R135: a deferred reply is sent, and stored where the cache entry is PENDING and names it. -/
def deferredReply (name : Answer) (destination sequence code : Byte) (status : ReplyStatus) (results : List Byte)
    (s : State) : State :=
  let s1 := sendReply destination sequence code status results s
  match s1.mc.cache with
  | none => s1
  | some e => if e.answer = name then s1.setCache (some { e with answer := .stored status results }) else s1

/-- R122: the reply of a fence record: its command, sequence and count, status OK. -/
def replyFence (f : FenceRec) (s : State) : State :=
  deferredReply (.pendingFence f.id) f.node f.sequence f.command.code .ok [numByte f.count] s

/-- R122: the oldest record whose captured set has emptied leaves the list and is replied to. -/
def completeOldestFence (s : State) : State :=
  match s.fu.fences.find? FenceRec.due with
  | none => s
  | some f => replyFence f { s with fu := { s.fu with fences := s.fu.fences.eraseP FenceRec.due } }

/-- R126: every record whose captured set has emptied leaves the list and is replied to, oldest first. -/
def completeDueFences (s : State) : State :=
  (s.fu.fences.filter FenceRec.due).foldl (fun s f => replyFence f s)
    { s with fu := { s.fu with fences := s.fu.fences.filter fun f => !f.due } }

/-- R81 steps 2 to 4: the slot becomes free, keeping its other fields, and leaves every captured set. -/
def freeSlot (i : SlotIndex) (s : State) : State :=
  let s1 := s.updSlot i fun sl => { sl with occupied := false }
  { s1 with fu := { s1.fu with
    fences := s1.fu.fences.map fun f => { f with captured := f.captured.filter fun j => j != i } } }

/-- A slot's request as its completion echoes it (R60). -/
def Slot.request (sl : Slot) : Request :=
  { kind := sl.kind, port := sl.port, stream := sl.stream, tag := sl.tag, address := sl.address,
    length := sl.length, payload := [] }

/-- R78: a completion of a slot's request is handed to its port unless the slot is an orphan. -/
def completeSlot (sl : Slot) (pkt : ClientPacket) (s : State) : State :=
  if sl.orphan then s else sendClient sl.port pkt s

/-- R78: a non-posted request in a slot is refused unless the slot is an orphan; a posted one receives nothing. -/
def refuseSlot (sl : Slot) (code : RefusalCode) (s : State) : State :=
  if sl.kind.posted then s else completeSlot sl (refusedPacket code sl.request) s

/-! ### The pending QUIESCE -/

/-- R154, R159, R162: a pending QUIESCE is answered with the given status and removed. -/
def answerQuiesce (status : ReplyStatus) (s : State) : State :=
  match s.mc.quiesce with
  | none => s
  | some q =>
    deferredReply .pendingQuiesce q.node q.sequence 0x12 status [] { s with mc := { s.mc with quiesce := none } }

/-! ### Commands: steps 1 to 4 and the reply (07) -/

/-- How a command that reached step 5 is answered: at once, or later by the deferred reply the answer names
(R134). -/
inductive Reply where
  | now (status : ReplyStatus) (results : List Byte)
  | deferred (answer : Answer)
  deriving DecidableEq, Repr

/-- R133: the replay cache answers a command with the cached node and sequence. -/
def State.cacheHit (source sequence : Byte) (s : State) : Option CacheEntry :=
  match s.mc.cache with
  | none => none
  | some e => if e.source = source ∧ e.sequence = sequence then some e else none

/-- R133: the answer of the cache, which changes nothing. -/
def answerFromCache (e : CacheEntry) (s : State) : State :=
  match e.answer with
  | .stored status results => sendReply e.source e.sequence e.code status results s
  | .pendingFence _ => sendReply e.source e.sequence e.code .pending [] s
  | .pendingQuiesce => sendReply e.source e.sequence e.code .pending [] s

/-- R131 steps 1 to 3, and R129: `some` state where they end the command, `none` where it goes on. `payload` is the
whole payload, code first; the empty payload has no check to pass (R181). A packet does not arrive over a DOWN link
(log entry 13). `fromAny` says that the command is CLAIM or STATUS (R140). -/
def envelope (source sequence : Byte) (payload : List Byte) (check : Half) (fromAny : Bool) (s : State) :
    Option State :=
  if s.fabric = .down then some s
  else if payload = [] ∨ check ≠ checkWord payload then some (logFault (checkErrorFault .fabric) s)
  else if source = s.ownNode then some (logFault (unsolicitedFault source) s)
  else
    match s.cacheHit source sequence with
    | some e => some (answerFromCache e s)
    | none =>
      if fromAny = false ∧ s.mc.owner ≠ some source then
        some (sendReply source sequence (payload.headD 0) .notOwner [] s)
      else none

/-- R134: the cache entry of a command from the owner, or of the CLAIM that made its sender the owner. `before` is
the state in which the command was taken, `s` the state its execution left. -/
def enterCache (source sequence code : Byte) (answer : Answer) (before s : State) : State :=
  if before.mc.owner = some source ∨ s.mc.owner = some source then
    s.setCache (some { source := source, sequence := sequence, code := code, answer := answer })
  else s

/-- R130, R134: a command executed to `out` is answered and entered in the cache. -/
def finish (source sequence code : Byte) (before : State) (out : State × Reply) : State :=
  match out.2 with
  | .now status results =>
    enterCache source sequence code (.stored status results) before
      (sendReply source sequence code status results out.1)
  | .deferred answer => enterCache source sequence code answer before out.1

/-- R131: a command of the catalogue from end to end; `body` is its step 5. -/
def takeCommand (code : Byte) (fromAny : Bool) (c : Command) (body : State → State × Reply) (s : State) : State :=
  match envelope c.source c.sequence (code :: c.params) c.check fromAny s with
  | some s' => s'
  | none => finish c.source c.sequence code s (body s)

/-- A step 5 that ends with a status and no results, leaving every block as it was (R131). -/
def reject (status : ReplyStatus) (s : State) : State × Reply := (s, .now status [])

/-- A step 5 that ends with OK and the given results. -/
def accept (results : List Byte) (s : State) : State × Reply := (s, .now .ok results)

end Sys2Proof.Machine
end

