-- ==== Sys2Proof/Machine/ClientPort.lean ====
section
/-! DEFINITION. The client ports (03): link events, arrival, head processing and the stale re-lookup. -/

namespace Sys2Proof.Machine

/-! ### CLIENT_LINK_UP, CLIENT_LINK_DOWN -/

/-- R46: the link comes UP: the credit count becomes 8 and one CREDIT granting 8 is sent. -/
def clientUp (p : Port) (s : State) : State :=
  sendClient p (creditPacket Config.queueCapacity)
    (s.updPort p fun c => { c with link := .up, credits := Config.queueCapacity })

/-- CLIENT_LINK_UP (R46). A link trains once start-up has ended (R165); a link that is UP stays as it is. -/
def execClientLinkUp (p : Port) (s : State) : Result :=
  .next (if s.phase = .running ∧ s.ports[p].link = .down then clientUp p s else s)

/-- R48: every occupied slot of the port becomes an orphan. -/
def orphanSlots (p : Port) (s : State) : State :=
  { s with fu := { s.fu with
    ort := mapTable (fun sl => if sl.occupied && sl.port == p then { sl with orphan := true } else sl) s.fu.ort } }

/-- R49: the port's requests leave the Held Store and RP, and every record left with no held request is freed. -/
def removeHeld (p : Port) (s : State) : State :=
  let kept := s.mu.held.filter fun h => h.req.port != p
  { s with mu := { s.mu with
    held := kept
    records := s.mu.records.filter fun m => kept.any fun h => h.place == .held m.ticket
    rp := match s.mu.rp with
      | some q => if q.req.port = p then none else some q
      | none => none } }

/-- R47 to R49: the teardown of a port whose link goes DOWN. Nothing is sent and no record is appended. -/
def clientDown (p : Port) (s : State) : State :=
  removeHeld p (orphanSlots p (s.updPort p fun _ => PortState.cleared))

/-- CLIENT_LINK_DOWN (R47). -/
def execClientLinkDown (p : Port) (s : State) : Result :=
  .next (if s.ports[p].link = .up then clientDown p s else s)

/-! ### CLIENT_PACKET_ARRIVAL -/

/-- R50 to R52: a frame arrives on an UP link: an overrun, a check error, or the new tail of the Ingress Queue. -/
def arrive (p : Port) (frame : List Byte) (s : State) : State :=
  if s.ports[p].credits = 0 then logFault (overrunFault p) s
  else
    let s1 := s.updPort p fun c => { c with credits := c.credits - 1 }
    match clientPacket frame with
    | none => logFault (checkErrorFault (.port p)) (grantCredit p 1 s1)
    | some pkt => s1.updPort p fun c => { c with queue := c.queue ++ [pkt] }

/-- CLIENT_PACKET_ARRIVAL (R50). No frame arrives over a DOWN link (log entry 13). -/
def execClientPacketArrival (p : Port) (frame : List Byte) (s : State) : Result :=
  .next (if s.ports[p].link = .up then arrive p frame s else s)

/-! ### HEAD_PROCESSING and PORT_STALE_RELOOKUP -/

/-- R36, R56, R57: the domain state check and the lookup of a request of domain `d`. A hit fills the port's staging
position; every other outcome leaves it empty. -/
def judgeInDomain (p : Port) (r : Request) (d : Domain) (s : State) : State :=
  match s.du.domains[d].state with
  | .paused => refuse .busy d r (s.setStaging p none)
  | .barred => refuse .denied d r (s.setStaging p none)
  | .active =>
    match lookup d r.address r.kind s with
    | .hitAllowed node fa i => (setHit i s).setStaging p (some (stagedOf r d node fa i))
    | .hitRefused => refuse .access d r (s.setStaging p none)
    | .miss => takeMiss r d (s.setStaging p none)

/-- R56: the binding step, and what follows it. A refusal NOT_BOUND has no domain to report it (R42). -/
def judgeAtPort (p : Port) (r : Request) (s : State) : State :=
  match s.du.streams[p][r.stream] with
  | none => endRequest .notBound r (s.setStaging p none)
  | some d => judgeInDomain p r d s

/-- R54: a MALFORMED packet: refused with its fields echoed, or, posted, dropped, with a CHECK_ERROR record where its
payload check failed. -/
def refuseMalformed (p : Port) (pkt : RxPacket) (s : State) : State :=
  if pkt.posted then (if pkt.checkFails then logFault (checkErrorFault (.port p)) s else s)
  else sendClient p (refusedRaw .malformed pkt) s

/-- R53 steps 1 to 5 on a packet. -/
def judgeHead (p : Port) (pkt : RxPacket) (s : State) : State :=
  match pkt.request p with
  | none => refuseMalformed p pkt s
  | some r =>
    match s.mc.admission with
    | .closed => endRequest .notReady r s
    | .draining => endRequest .busy r s
    | .quiesced => endRequest .busy r s
    | .opened => judgeAtPort p r s

/-- R53: the head leaves its queue under one of the five steps, and its credit is returned in a CREDIT granting 1
behind its refusal. -/
def processHead (p : Port) (pkt : RxPacket) (rest : List RxPacket) (s : State) : State :=
  grantCredit p 1 ((judgeHead p pkt s).updPort p fun c => { c with queue := rest })

/-- HEAD_PROCESSING (R53): while the queue is not empty and the staging position is empty. -/
def execHeadProcessing (p : Port) (s : State) : Result :=
  .next (match s.ports[p].queue, s.ports[p].staging with
    | pkt :: rest, none => processHead p pkt rest s
    | _, _ => s)

/-- PORT_STALE_RELOOKUP (R59): binding, domain state and lookup again for a staged request marked stale. No credit
is returned. -/
def execPortStaleRelookup (p : Port) (s : State) : Result :=
  .next (match s.ports[p].staging with
    | some q => if q.stale then judgeAtPort p q.req s else s
    | none => s)

end Sys2Proof.Machine
end

