-- ==== Sys2Proof/Machine/Fences.lean ====
section
/-! DEFINITION. INVALIDATE, FENCE and the completion of fences (06). -/

namespace Sys2Proof.Machine

/-! ### INVALIDATE -/

/-- R24: an invalidated entry: invalid, unpinned and not hit; it keeps its other fields. -/
def Entry.invalidated (e : Entry) : Entry := { e with valid := false, pinned := false, hit := false }

/-- R115: the valid entries a selector names, in ascending order. -/
def State.named (sel : EntryIndex → Entry → Bool) (s : State) : List EntryIndex :=
  (List.finRange 64).filter fun i => s.tu.entries[i].valid && sel i s.tu.entries[i]

/-- R116: every matched entry becomes invalid, and every staged request recording one is marked stale. -/
def invalidate (sel : EntryIndex → Entry → Bool) (s : State) : State :=
  markStale (fun q => (s.named sel).contains q.entry)
    { s with tu := { s.tu with
      entries := Vector.ofFn fun i =>
        if s.tu.entries[i].valid && sel i s.tu.entries[i] then s.tu.entries[i].invalidated else s.tu.entries[i] } }

/-- R119 steps 3 and 4: the occupied slots are captured; with none the command is answered at once, otherwise a record
is added at the end of the Fence List and the reply is deferred. -/
def capture (cmd : FenceCommand) (c : Command) (count : Nat) (s : State) : State × Reply :=
  if s.occupiedSlots = [] then accept [numByte count] s
  else
    ({ s with fu := { s.fu with
        fences := s.fu.fences ++ [{ id := s.fu.nextFence, command := cmd, sequence := c.sequence, node := c.source,
                                    count := count, captured := s.occupiedSlots }]
        nextFence := s.fu.nextFence + 1 } },
     .deferred (.pendingFence s.fu.nextFence))

/-- R116, R119: an INVALIDATE whose parameters have passed, with its fence flag. The room check comes first. -/
def invalidateWith (c : Command) (fence : Bool) (sel : EntryIndex → Entry → Bool) (s : State) : State × Reply :=
  let count := (s.named sel).length
  if fence then
    if Config.fenceCapacity ≤ s.fu.fences.length then reject .busy s
    else capture .invalidate c count (invalidate sel s)
  else accept [numByte count] (invalidate sel s)

/-- R187: the parameters of an INVALIDATE of selector byte `selector`: the fence flag, the byte after it, the base and
the length; `none` for a wrong width, another selector or a flag outside its coding. -/
def invalidateOf (selector : Byte) (params : List Byte) : Option (Bool × Byte × Nat × Nat) :=
  match params with
  | [sel, f, x, b3, b2, b1, b0, l3, l2, l1, l0] =>
    if sel = selector then
      match boolOf f with
      | some fence => some (fence, x, (of32 b3 b2 b1 b0).toNat, (of32 l3 l2 l1 l0).toNat)
      | none => none
    else none
  | _ => none

/-- R114, R115: INVALIDATE INDEX. -/
def invalidateIndexBody (c : Command) (s : State) : State × Reply :=
  match invalidateOf 1 c.params with
  | none => reject .badParam s
  | some (fence, x, _, _) =>
    match indexOf x with
    | none => reject .badParam s
    | some i => invalidateWith c fence (fun j _ => j == i) s

/-- R114, R115: INVALIDATE DOMAIN. SHARED entries are not matched. -/
def invalidateDomainBody (c : Command) (s : State) : State × Reply :=
  match invalidateOf 2 c.params with
  | none => reject .badParam s
  | some (fence, x, _, _) =>
    match domainOf x with
    | none => reject .badParam s
    | some d => invalidateWith c fence (fun _ e => e.scope == .domain d) s

/-- R114, R115: INVALIDATE RANGE: exactly the given scope, and an overlap with `[base, base + length)`. -/
def invalidateRangeBody (c : Command) (s : State) : State × Reply :=
  match invalidateOf 3 c.params with
  | none => reject .badParam s
  | some (fence, x, base, length) =>
    match scopeOf x with
    | none => reject .badParam s
    | some sc =>
      if length = 0 ∨ 2 ^ 32 < base + length then reject .badParam s
      else invalidateWith c fence (fun _ e => e.scope == sc && e.overlaps base length) s

/-- R115: INVALIDATE UNPINNED. -/
def invalidateUnpinnedBody (c : Command) (s : State) : State × Reply :=
  match invalidateOf 4 c.params with
  | none => reject .badParam s
  | some (fence, _, _, _) => invalidateWith c fence (fun _ e => !e.pinned) s

/-- R115: INVALIDATE ALL. -/
def invalidateAllBody (c : Command) (s : State) : State × Reply :=
  match invalidateOf 5 c.params with
  | none => reject .badParam s
  | some (fence, _, _, _) => invalidateWith c fence (fun _ _ => true) s

/-- INVALIDATE_INDEX (R114 to R116, R119). -/
def execInvalidateIndex (c : Command) (s : State) : Result :=
  .next (takeCommand 0x33 false c (invalidateIndexBody c) s)

/-- INVALIDATE_DOMAIN (R114 to R116, R119). -/
def execInvalidateDomain (c : Command) (s : State) : Result :=
  .next (takeCommand 0x33 false c (invalidateDomainBody c) s)

/-- INVALIDATE_RANGE (R114 to R116, R119). -/
def execInvalidateRange (c : Command) (s : State) : Result :=
  .next (takeCommand 0x33 false c (invalidateRangeBody c) s)

/-- INVALIDATE_UNPINNED (R114 to R116, R119). -/
def execInvalidateUnpinned (c : Command) (s : State) : Result :=
  .next (takeCommand 0x33 false c (invalidateUnpinnedBody c) s)

/-- INVALIDATE_ALL (R114 to R116, R119). -/
def execInvalidateAll (c : Command) (s : State) : Result :=
  .next (takeCommand 0x33 false c (invalidateAllBody c) s)

/-! ### FENCE and FENCE_COMPLETION -/

/-- R121: FENCE: the room check, then the capture; nothing is invalidated. -/
def fenceBody (c : Command) (s : State) : State × Reply :=
  if c.params = [] then
    if Config.fenceCapacity ≤ s.fu.fences.length then reject .busy s else capture .fence c 0 s
  else reject .badParam s

/-- FENCE (R121). -/
def execFence (c : Command) (s : State) : Result := .next (takeCommand 0x34 false c (fenceBody c) s)

/-- FENCE_COMPLETION (R122): the oldest record whose captured set has emptied (log entry 5). -/
def execFenceCompletion (s : State) : Result := .next (completeOldestFence s)

end Sys2Proof.Machine
end

