-- ==== Sys2Proof/Machine/Forwarding.lean ====
section
/-! DEFINITION. The Forwarding Unit and the fabric port (04): grants, responses, dropped packets and upstream timeouts. -/

namespace Sys2Proof.Machine

/-! ### GRANT -/

/-- R68: the requesters in the arbiter's fixed order. -/
def requesters : List Requester := [.cp 0, .cp 1, .cp 2, .cp 3, .rp]

/-- R69: the requesters in the order the arbiter looks at them when its pointer names `r`: the one after `r` first,
going round from RP to CP0. -/
def lookOrder (r : Requester) : List Requester :=
  match r with
  | .rp => requesters
  | .cp p => requesters.drop (p.val + 1) ++ requesters.take (p.val + 1)

/-- The staging position of a requester. -/
def State.stagedAt (r : Requester) (s : State) : Option Staged :=
  match r with
  | .cp p => s.ports[p].staging
  | .rp => s.mu.rp

/-- R71: the lowest-numbered free slot. -/
def State.lowestFree (s : State) : Option SlotIndex := (List.finRange 32).find? fun i => !s.fu.ort[i].occupied

/-- R68: the requester holds a request that is not stale, whose domain is below its limit, and a slot is free. -/
def State.eligible (s : State) (r : Requester) : Bool :=
  match s.stagedAt r with
  | none => false
  | some q =>
    !q.stale && decide (s.ortUse q.domain < s.du.domains[q.domain].limit.toNat) && s.lowestFree.isSome

/-- R69: the requester the next grant goes to. -/
def State.winner (s : State) : Option Requester := (lookOrder s.fu.pointer).find? s.eligible

/-- R71: what a grant writes into a slot of incarnation `inc`; the timer starts at `timeout`. -/
def grantedSlot (q : Staged) (inc : BitVec 3) (timeout : Byte) : Slot :=
  { occupied := true, incarnation := inc + 1, kind := q.req.kind, port := q.req.port, stream := q.req.stream,
    tag := q.req.tag, address := q.req.address, domain := q.domain, node := q.node, length := q.req.length,
    orphan := false, timer := timeout }

/-- R72, R185: the request packet a grant sends upstream. A READ carries no payload. -/
def requestPacket (own : Byte) (q : Staged) (tag : Byte) : FabricPacket :=
  { kind := q.req.kind.fabricCode, status := 0, source := own, destination := q.node, tag := tag, sequence := 0,
    length := q.req.length, address := q.fabricAddress.setWidth 48, payload := q.req.payload }

/-- R71, R106: the winner's staging position empties; RP's request leaves the Replay Queue and its Held Store slot. -/
def leaveStaging (r : Requester) (s : State) : State :=
  match r with
  | .cp p => s.setStaging p none
  | .rp => popReplay s

/-- R71, R72: requester `r`, holding `q`, is granted slot `i`. -/
def grantTo (r : Requester) (q : Staged) (i : SlotIndex) (s : State) : State :=
  let s1 := s.updSlot i fun sl => grantedSlot q sl.incarnation s.tb.upstreamTimeout
  let s2 := leaveStaging r { s1 with fu := { s1.fu with pointer := r } }
  sendFabric (requestPacket s.ownNode q (upstreamTag i (s.fu.ort[i].incarnation + 1))) s2

/-- GRANT (R69, R71): with the fabric link UP and some requester eligible, one grant. -/
def execGrant (s : State) : Result :=
  .next (if s.fabric = .down then s
    else match s.winner, s.lowestFree with
      | some r, some i =>
        match s.stagedAt r with
        | some q => grantTo r q i s
        | none => s
      | _, _ => s)

/-! ### Responses -/

/-- R67: the slot a tag names. -/
def tagSlot (tag : Byte) : SlotIndex := ⟨tag.toNat / 8, by omega⟩

/-- R67: the incarnation a tag names. -/
def tagIncarnation (tag : Byte) : BitVec 3 := tag.setWidth 3

/-- R74: the response is matched: the slot is occupied, holds the tag's incarnation, and its target node sent it. -/
def State.matched (r : Response) (s : State) : Bool :=
  s.fu.ort[tagSlot r.tag].occupied && s.fu.ort[tagSlot r.tag].incarnation == tagIncarnation r.tag
    && s.fu.ort[tagSlot r.tag].node == r.source

/-- R186: the address field breaks the layout: one of its top four bits is set. -/
def badAddress (r : Response) : Bool := 2 ^ 44 ≤ r.address.toNat

/-- R75 to R77, R186: a mismatched response: UPSTREAM_ERROR for a READ or WRITE, and an UPSTREAM_PROTOCOL record. -/
def endProtocol (i : SlotIndex) (sl : Slot) (s : State) : State :=
  logFault (protocolFault i sl) (refuseSlot sl .upstreamError s)

/-- R75: a READ DATA for a READ slot. The length is judged before the payload check. -/
def endReadData (r : Response) (i : SlotIndex) (sl : Slot) (s : State) : State :=
  match r.payload with
  | none => endProtocol i sl s
  | some p =>
    if p.bytes.length ≠ sl.length.toNat then endProtocol i sl s
    else if p.check = checkWord p.bytes then completeSlot sl (completion 0x21 0 p.bytes sl.request) s
    else logFault (checkErrorFault .fabric) (refuseSlot sl .upstreamError s)

/-- R75 to R77: a matched READ DATA, by the slot's kind. -/
def onReadData (r : Response) (i : SlotIndex) (sl : Slot) (s : State) : State :=
  match sl.kind with
  | .read => endReadData r i sl s
  | .write => endProtocol i sl s
  | .postedWrite => endProtocol i sl s

/-- R75 to R77: a matched WRITE ACK, by the slot's kind. -/
def onWriteAck (_ : Response) (i : SlotIndex) (sl : Slot) (s : State) : State :=
  match sl.kind with
  | .read => endProtocol i sl s
  | .write => completeSlot sl (completion 0x22 0 [] sl.request) s
  | .postedWrite => s

/-- R75 to R77: a matched FABRIC ERROR, by the slot's kind. -/
def onFabricError (r : Response) (_ : SlotIndex) (sl : Slot) (s : State) : State :=
  match sl.kind with
  | .read => refuseSlot sl .upstreamError s
  | .write => refuseSlot sl .upstreamError s
  | .postedWrite => logFault (postedFault sl (r.status.setWidth 16)) s

/-- R73, R74, R81, R186: a response arrives: stray, or matched to its slot, whose request ends by the layout rule or by
`handle`, and which is then freed. -/
def respond (handle : Response → SlotIndex → Slot → State → State) (r : Response) (s : State) : State :=
  if s.fabric = .down then s
  else if s.matched r then
    let i := tagSlot r.tag
    let sl := s.fu.ort[i]
    freeSlot i (if badAddress r then endProtocol i sl s else handle r i sl s)
  else logFault (strayFault r.tag r.source) s

/-- READ_DATA (R75 to R77). -/
def execReadData (r : Response) (s : State) : Result := .next (respond onReadData r s)

/-- WRITE_ACK (R75 to R77). -/
def execWriteAck (r : Response) (s : State) : Result := .next (respond onWriteAck r s)

/-- FABRIC_ERROR (R75 to R77). -/
def execFabricError (r : Response) (s : State) : Result := .next (respond onFabricError r s)

/-! ### Other fabric packets -/

/-- FABRIC_BAD_FRAME (R73, R181): dropped with a CHECK_ERROR record of source FABRIC. -/
def execFabricBadFrame (_frame : List Byte) (s : State) : Result :=
  .next (if s.fabric = .down then s else logFault (checkErrorFault .fabric) s)

/-- FOREIGN_PACKET (R73): dropped without a record. -/
def execForeignPacket (_destination : Byte) (s : State) : Result := .next s

/-- UNSOLICITED_PACKET (R147): dropped with an UNSOLICITED record of its source node. -/
def execUnsolicitedPacket (source _kind : Byte) (s : State) : Result :=
  .next (if s.fabric = .down then s else logFault (unsolicitedFault source) s)

/-! ### UPSTREAM_TIMER_EXPIRY -/

/-- R79: the request of an expired slot ends, and the slot is freed. -/
def expireSlot (i : SlotIndex) (s : State) : State :=
  let sl := s.fu.ort[i]
  freeSlot i (match sl.kind with
    | .read => refuseSlot sl .upstreamTimeout s
    | .write => refuseSlot sl .upstreamTimeout s
    | .postedWrite => logFault (postedFault sl Config.codeTimeout) s)

/-- UPSTREAM_TIMER_EXPIRY (R79, R83): an occupied slot whose timer has reached zero. -/
def execUpstreamTimerExpiry (i : SlotIndex) (s : State) : Result :=
  .next (if s.fu.ort[i].occupied ∧ s.fu.ort[i].timer = 0 then expireSlot i s else s)

end Sys2Proof.Machine
end

