-- ==== Sys2Proof/Machine/MissEvents.lean ====
section
/-! DEFINITION. The miss unit (05): miss expiry, the Replay Queue and RP, RESOLVE and READ MISSES. -/

namespace Sys2Proof.Machine

/-! ### MISS_TIMER_EXPIRY -/

/-- R98: the held requests of an expired record are refused MISS_TIMEOUT in held-list order, a MISS_EXPIRED record is
appended, and the record is freed. MISS_TIMEOUT is not reported by the report flag. -/
def expireRecord (m : MissRec) (s : State) : State :=
  freeRecord m.ticket
    (logFault (expiredFault m) ((s.heldOf m.ticket).foldl (fun s h => endRequest .missTimeout h.req s) s))

/-- R98: the record of a ticket expires where its timer has reached zero. -/
def expireTicket (s : State) (t : Half) : State :=
  match s.recordOf t with
  | some m => if m.timer = 0 then expireRecord m s else s
  | none => s

/-- MISS_TIMER_EXPIRY (R98): a live record whose timer has reached zero. -/
def execMissTimerExpiry (t : Half) (s : State) : Result := .next (expireTicket s t)

/-! ### REPLAY_PROCESSING and RP_STALE_RELOOKUP -/

/-- R105: the domain state and the lookup of a replayed request. A hit stages it at RP; every other outcome refuses
it, and it leaves the Replay Queue and RP. -/
def judgeReplay (r : Request) (d : Domain) (s : State) : State :=
  match s.du.domains[d].state with
  | .paused => popReplay (refuse .busy d r s)
  | .barred => popReplay (refuse .denied d r s)
  | .active =>
    match lookup d r.address r.kind s with
    | .hitAllowed node fa i => (setHit i s).setRp (some (stagedOf r d node fa i))
    | .hitRefused => popReplay (refuse .access d r s)
    | .miss => popReplay (refuse .noMap d r s)

/-- REPLAY_PROCESSING (R105): the first entry of the Replay Queue while RP is empty. -/
def execReplayProcessing (s : State) : Result :=
  .next (match s.mu.rp, s.replayQueue with
    | none, h :: _ => judgeReplay h.req h.domain s
    | _, _ => s)

/-- RP_STALE_RELOOKUP (R107): the stale request at RP, under the domain it was staged with. -/
def execRpStaleRelookup (s : State) : Result :=
  .next (match s.mu.rp with
    | some q => if q.stale then judgeReplay q.req q.domain s else s
    | none => s)

/-! ### RESOLVE_RETRY and RESOLVE_DENY -/

/-- R100, R187: the ticket of a RESOLVE whose parameters are a ticket and the action byte `action`. -/
def resolveOf (action : Byte) (params : List Byte) : Option Half :=
  match params with
  | [t1, t0, a] => if a = action then some (of16 t1 t0) else none
  | _ => none

/-- R100, R102: RESOLVE RETRY, with the number of requests moved. -/
def resolveRetryBody (c : Command) (s : State) : State × Reply :=
  match resolveOf 1 c.params with
  | none => reject .badParam s
  | some t =>
    match s.recordOf t with
    | none => reject .stale s
    | some _ => accept [numByte (s.heldOf t).length] (retryRecord t s)

/-- R100, R101: RESOLVE DENY, with the number of requests ended. -/
def resolveDenyBody (c : Command) (s : State) : State × Reply :=
  match resolveOf 2 c.params with
  | none => reject .badParam s
  | some t =>
    match s.recordOf t with
    | none => reject .stale s
    | some m => accept [numByte (s.heldOf t).length] (denyRecord m s)

/-- RESOLVE_RETRY (R100, R102). -/
def execResolveRetry (c : Command) (s : State) : Result := .next (takeCommand 0x40 false c (resolveRetryBody c) s)

/-- RESOLVE_DENY (R100, R101). -/
def execResolveDeny (c : Command) (s : State) : Result := .next (takeCommand 0x40 false c (resolveDenyBody c) s)

/-! ### READ_MISSES -/

/-- R191: one record of a READ MISSES reply. DESIGN CHOICE (log entry 21): R191 gives a remaining count of 1 to 255; a
record whose timer has reached zero and whose expiry has yet to be taken shows 0. -/
def missRecordBytes (s : State) (m : MissRec) : List Byte :=
  be16 m.ticket ++ [numByte m.domain.val] ++ be20 m.page
    ++ [m.wanted.byte, numByte m.firstPort.val, numByte m.firstStream.val, numByte (s.heldOf m.ticket).length, m.timer]

/-- R110: at most 8 live records from position `offset` on, in creation order. -/
def State.missesFrom (offset : Nat) (s : State) : List MissRec :=
  (s.mu.records.drop offset).take Config.missesPerReply

/-- R110: READ MISSES. -/
def readMissesBody (c : Command) (s : State) : State × Reply :=
  match c.params with
  | [o] =>
    if o.toNat < 16 then
      let ms := s.missesFrom o.toNat
      accept ([numByte s.mu.records.length, numByte ms.length] ++ ms.flatMap (missRecordBytes s)) s
    else reject .badParam s
  | _ => reject .badParam s

/-- READ_MISSES (R110). -/
def execReadMisses (c : Command) (s : State) : Result := .next (takeCommand 0x41 false c (readMissesBody c) s)

end Sys2Proof.Machine
end

