-- ==== Sys2Proof/Machine/Management.lean ====
section
/-! DEFINITION. Ownership, STATUS, unknown commands (07) and LOG READ (09). -/

namespace Sys2Proof.Machine

/-- R188: step 5 of a command without parameters. -/
def withoutParams (c : Command) (body : State → State × Reply) (s : State) : State × Reply :=
  if c.params = [] then body s else reject .badParam s

/-! ### CLAIM -/

/-- R138: CLAIM by the owner record; the OK reply carries the number the next notice will carry. -/
def claimOwner (source : Byte) (s : State) : State × Reply :=
  match s.mc.owner with
  | none => accept [s.mc.noticeSeq] { s with mc := { s.mc with owner := some source } }
  | some o => if o = source then accept [s.mc.noticeSeq] s else reject .notOwner s

/-- R138: CLAIM. -/
def claimBody (c : Command) (s : State) : State × Reply := withoutParams c (claimOwner c.source) s

/-- CLAIM (R138), taken from any node. -/
def execClaim (c : Command) (s : State) : Result := .next (takeCommand 0x01 true c (claimBody c) s)

/-! ### RELINQUISH -/

/-- R139, R109: the live records are denied in Miss List order, admission becomes CLOSED, the owner is cleared. -/
def relinquishOwner (s : State) : State :=
  let s1 := (s.mu.records.foldl (fun s m => denyRecord m s) s).setAdmission .closed
  { s1 with mc := { s1.mc with owner := none } }

/-- R139: RELINQUISH: BUSY while a deferred reply is pending. -/
def relinquishBody (c : Command) (s : State) : State × Reply :=
  withoutParams c (fun s => if s.replyPending then reject .busy s else accept [] (relinquishOwner s)) s

/-- RELINQUISH (R139, R195). -/
def execRelinquish (c : Command) (s : State) : Result := .next (takeCommand 0x02 false c (relinquishBody c) s)

/-! ### STATUS -/

/-- R142, R193: the 20 bytes of STATUS results. -/
def statusResults (s : State) : List Byte :=
  [s.mc.admission.byte, boolByte s.mc.owner.isSome, s.mc.owner.getD 0, s.ownNode, s.mc.cause.kind.byte,
   boolByte s.mc.cause.trafficLost, s.linkByte, numByte s.ortOccupancy, numByte s.mu.held.length,
   numByte s.mu.records.length, numByte s.fu.fences.length, numByte s.fl.records.length]
  ++ be16 s.fl.overflow ++ be16 s.mu.ticket
  ++ [s.mc.noticeSeq, s.tb.period.byte, s.tb.missTimeout, s.tb.upstreamTimeout]

/-- R142: STATUS changes nothing. -/
def statusBody (c : Command) (s : State) : State × Reply := withoutParams c (fun s => accept (statusResults s) s) s

/-- STATUS (R142), taken from any node. -/
def execStatus (c : Command) (s : State) : Result := .next (takeCommand 0x03 true c (statusBody c) s)

/-! ### UNKNOWN_COMMAND -/

/-- UNKNOWN_COMMAND (R141): ownership is judged first, then the code gets UNKNOWN, echoed. A payload too short to hold a
code fails its check (R181). -/
def execUnknownCommand (source sequence : Byte) (payload : List Byte) (check : Half) (s : State) : Result :=
  .next (match envelope source sequence payload check false s with
    | some s' => s'
    | none => finish source sequence (payload.headD 0) s (reject .unknown s))

/-! ### LOG_READ -/

/-- R192: an optional field of a fault record, zero where absent. -/
def orZero {n : Nat} (x : Option (BitVec n)) : BitVec n := x.getD 0

/-- R192: the presence byte. -/
def FaultRec.presence (r : FaultRec) : Byte :=
  flagBit 5 r.stream.isSome ||| flagBit 4 r.domain.isSome ||| flagBit 3 r.address.isSome ||| flagBit 2 r.ticket.isSome
    ||| flagBit 1 r.tag.isSome ||| flagBit 0 r.code.isSome

/-- R191, R192: the 16 bytes of a fault record. -/
def FaultRec.bytes (r : FaultRec) : List Byte :=
  be16 r.sequence
  ++ [r.kind.byte, r.source.byte, r.presence, numByte (r.stream.map Fin.val |>.getD 0),
      numByte (r.domain.map Fin.val |>.getD 0), orZero r.tag]
  ++ be32 (orZero r.address) ++ be16 (orZero r.ticket) ++ be16 (orZero r.code)

/-- R177: the `n` oldest records leave the log; the overflow count is set to 0 where the log is then empty. -/
def removeOldest (n : Nat) (s : State) : State :=
  { s with fl := { s.fl with records := s.fl.records.drop n,
                             overflow := if (s.fl.records.drop n).isEmpty then 0 else s.fl.overflow } }

/-- R177, R187: the results of a LOG READ of up to `n` records. -/
def logResults (n : Nat) (s : State) : List Byte :=
  [numByte (s.fl.records.take n).length] ++ be16 s.fl.overflow ++ [numByte (s.fl.records.drop n).length]
  ++ (s.fl.records.take n).flatMap FaultRec.bytes

/-- R177: LOG READ. -/
def logReadBody (c : Command) (s : State) : State × Reply :=
  match c.params with
  | [n] =>
    if 1 ≤ n.toNat ∧ n.toNat ≤ Config.maxLogRead then accept (logResults n.toNat s) (removeOldest n.toNat s)
    else reject .badParam s
  | _ => reject .badParam s

/-- LOG_READ (R177). -/
def execLogRead (c : Command) (s : State) : Result := .next (takeCommand 0x50 false c (logReadBody c) s)

end Sys2Proof.Machine
end

