-- ==== Sys2Proof/Machine/Admission.lean ====
section
/-! DEFINITION. Admission, quiescing and the RESET command (08). -/

namespace Sys2Proof.Machine

/-! ### OPEN, CLOSE, QUIESCE, RELEASE -/

/-- R153: OPEN. -/
def openBody (c : Command) (s : State) : State × Reply :=
  withoutParams c (fun s =>
    match s.mc.admission with
    | .closed => accept [] (s.setAdmission .opened)
    | .opened | .draining | .quiesced => reject .wrongState s) s

/-- OPEN (R153). -/
def execOpen (c : Command) (s : State) : Result := .next (takeCommand 0x10 false c (openBody c) s)

/-- R154: CLOSE. In DRAINING the pending QUIESCE is answered ABORTED first. -/
def closeBody (c : Command) (s : State) : State × Reply :=
  withoutParams c (fun s =>
    match s.mc.admission with
    | .draining => accept [] ((answerQuiesce .aborted s).setAdmission .closed)
    | .opened | .quiesced | .closed => accept [] (s.setAdmission .closed)) s

/-- CLOSE (R154). -/
def execClose (c : Command) (s : State) : Result := .next (takeCommand 0x11 false c (closeBody c) s)

/-- R155: QUIESCE. In OPEN, a part that is drained but owes a fence reply is DRAINING until that reply is sent (R125,
R157; log entry 6). -/
def quiesceBody (c : Command) (s : State) : State × Reply :=
  withoutParams c (fun s =>
    match s.mc.admission with
    | .opened =>
      if s.quiet then accept [] (s.setAdmission .quiesced)
      else
        ({ s with mc := { s.mc with
            admission := .draining
            quiesce := some { sequence := c.sequence, node := c.source } } },
         .deferred .pendingQuiesce)
    | .draining => reject .inProgress s
    | .quiesced => accept [] s
    | .closed => reject .wrongState s) s

/-- QUIESCE (R155). -/
def execQuiesce (c : Command) (s : State) : Result := .next (takeCommand 0x12 false c (quiesceBody c) s)

/-- R159: RELEASE. -/
def releaseBody (c : Command) (s : State) : State × Reply :=
  withoutParams c (fun s =>
    match s.mc.admission with
    | .draining => accept [] ((answerQuiesce .aborted s).setAdmission .opened)
    | .quiesced => accept [] (s.setAdmission .opened)
    | .opened | .closed => reject .wrongState s) s

/-- RELEASE (R159). -/
def execRelease (c : Command) (s : State) : Result := .next (takeCommand 0x13 false c (releaseBody c) s)

/-! ### DRAIN_COMPLETION -/

/-- R157: admission becomes QUIESCED and the pending QUIESCE is answered OK. -/
def completeDrain (s : State) : State := answerQuiesce .ok (s.setAdmission .quiesced)

/-- R157: the drain ends while DRAINING and the part is quiet (R156; log entry 6). -/
def endDrain (s : State) : State :=
  if s.mc.admission = .draining ∧ s.quiet = true then completeDrain s else s

/-- DRAIN_COMPLETION (R157). -/
def execDrainCompletion (s : State) : Result := .next (endDrain s)

/-! ### RESET_TRAFFIC and RESET_FULL -/

/-- R64: a packet still queued at a reset: refused RESET, a packet of unknown kind counting as non-posted; a posted one
is dropped. -/
def endQueued (p : Port) (pkt : RxPacket) (s : State) : State :=
  if pkt.posted then s else sendClient p (refusedRaw .reset pkt) s

/-- R64: the staged request of a port ends with `code`, and the staging position empties. -/
def endStaged (code : RefusalCode) (p : Port) (s : State) : State :=
  match s.ports[p].staging with
  | some q => endRequest code q.req (s.setStaging p none)
  | none => s

/-- R64: an UP port refuses its staged request and its queued packets, head to tail, empties both, and returns the
credits of the slots it emptied in one CREDIT. -/
def resetPort (s : State) (p : Port) : State :=
  if s.ports[p].link = .up then
    let queue := s.ports[p].queue
    let s1 := queue.foldl (fun s pkt => endQueued p pkt s) (endStaged .reset p s)
    let s2 := s1.updPort p fun c => { c with queue := [] }
    if queue = [] then s2 else grantCredit p queue.length s2
  else s

/-- R86, R126: an occupied slot ends and is freed, and the fences whose captured sets that empties are replied to. -/
def resetSlot (s : State) (i : SlotIndex) : State :=
  if s.fu.ort[i].occupied then
    completeDueFences (freeSlot i (refuseSlot s.fu.ort[i] .reset s))
  else s

/-- R86, R126: every occupied slot ends, in ascending slot order. Fences whose captured sets had emptied before are
replied to first, so that no fence record outlasts the reset. -/
def resetSlots (s : State) : State := (List.finRange 32).foldl resetSlot (completeDueFences s)

/-- R112, R113: every request in the miss unit ends with `code`: the Replay Queue, RP's request its first entry, then
the held lists record by record; then everything is freed. The ticket counter keeps its value. -/
def endMissUnit (code : RefusalCode) (s : State) : State :=
  let order := s.replayQueue ++ s.mu.records.flatMap fun m => s.heldOf m.ticket
  let s1 := order.foldl (fun s h => endRequest code h.req s) s
  { s1 with mu := { s1.mu with records := [], held := [], rp := none } }

/-- R162 steps 2 to 6: the traffic ends, the pending QUIESCE is answered ABORTED, admission becomes CLOSED. -/
def endTraffic (s : State) : State :=
  let s1 := (List.finRange 4).foldl resetPort s
  let s2 := resetSlots s1
  let s3 := endMissUnit .reset s2
  (answerQuiesce .aborted s3).setAdmission .closed

/-- R162 step 8: the cause record. -/
def setCause (kind : ResetKind) (lost : Bool) (s : State) : State :=
  { s with mc := { s.mc with cause := { kind := kind, trafficLost := lost } } }

/-- R162 step 7, RESET FULL only: the owner, the tables, the rotation pointer, the Timebase and the Fault Log, whose
sequence counter is kept. -/
def clearTables (s : State) : State :=
  { s with
    mc := { s.mc with owner := none }
    tu := TransUnit.cleared
    du := DomainUnit.cleared
    fu := { s.fu with pointer := .rp }
    tb := TimeBase.defaults
    fl := { s.fl with records := [], overflow := 0 } }

/-- R162: RESET TRAFFIC; the traffic-lost flag is formed before anything is emptied. -/
def resetTraffic (s : State) : State := setCause .traffic s.trafficLost (endTraffic s)

/-- R162: RESET FULL. -/
def resetFull (s : State) : State := setCause .full s.trafficLost (clearTables (endTraffic s))

/-- R161, R162: RESET of kind TRAFFIC; a kind that names neither gets BAD_PARAM. -/
def resetTrafficBody (c : Command) (s : State) : State × Reply :=
  if c.params = [1] then accept [] (resetTraffic s) else reject .badParam s

/-- R161, R162: RESET of kind FULL. -/
def resetFullBody (c : Command) (s : State) : State × Reply :=
  if c.params = [2] then accept [] (resetFull s) else reject .badParam s

/-- RESET_TRAFFIC (R162). -/
def execResetTraffic (c : Command) (s : State) : Result := .next (takeCommand 0x14 false c (resetTrafficBody c) s)

/-- RESET_FULL (R162). -/
def execResetFull (c : Command) (s : State) : Result := .next (takeCommand 0x14 false c (resetFullBody c) s)

end Sys2Proof.Machine
end

