-- ==== Sys2Proof/Machine/Power.lean ====
section
/-! DEFINITION. Power-on, pin reset and start-up (08, sections 8.3 to 8.5), and the fabric link (08, section 8.6). -/

namespace Sys2Proof.Machine

/-! ### Power-on, pin reset, start-up -/

/-- R165 steps 1 and 2: the strap is sampled, every block is cleared to its power-on values and the cause record is
written; every link is held DOWN while the part clears. What has been sent and the queue of commands are the
model's own and stay (log entry 11). DESIGN CHOICE (log entry 26): a fence reply that a freeing has released and whose
FENCE_COMPLETION still waits is lost with its record. -/
def startUp (strap : BitVec 4) (cause : ResetCause) (s : State) : State :=
  { State.reset with
    strap := strap, mc := ManageCtl.cleared cause, phase := .clearing, sent := s.sent, pending := s.pending }

/-- POWER_ON (R164, R165): cause POWER with flag no. DESIGN CHOICE (log entry 25): the spec does not say
whether a power-on taken while RSTN is low waits for RSTN to go high; here clearing begins at once, and the
PIN_RESET_RELEASE that follows changes nothing. -/
def execPowerOn (strap : BitVec 4) (s : State) : Result :=
  .next (startUp strap { kind := .power, trafficLost := false } s)

/-- R166: RSTN goes low: the flag is formed, every link goes DOWN, and what was in the part is lost: the ports' queues
and staged requests, the ORT's requests, the fences, the miss unit's requests, the owner, the cache and a pending
QUIESCE. The tables and counters are cleared by the start-up that follows (R165; log entry 8). DESIGN CHOICE (log entry
26): a fence reply that a freeing has released and whose FENCE_COMPLETION still waits is lost too. -/
def assertReset (s : State) : State :=
  { s with
    phase := .inReset s.trafficLost
    ports := Vector.replicate 4 PortState.cleared
    fabric := .down
    fu := { s.fu with ort := mapTable (fun sl => { sl with occupied := false }) s.fu.ort, fences := [] }
    mu := { s.mu with records := [], held := [], rp := none }
    mc := { s.mc with admission := .closed, owner := none, cache := none, quiesce := none } }

/-- The traffic-lost flag that waits while RSTN is low. -/
def Phase.heldFlag : Phase → Option Bool
  | .inReset lost => some lost
  | .clearing => none
  | .running => none

/-- PIN_RESET_ASSERT (R166): RSTN goes from high to low. -/
def execPinResetAssert (s : State) : Result :=
  .next (match s.phase.heldFlag with
    | some _ => s
    | none => assertReset s)

/-- PIN_RESET_RELEASE (R165, R166): RSTN goes from low to high; start-up runs with cause PIN and the flag formed at the
assertion. -/
def execPinResetRelease (strap : BitVec 4) (s : State) : Result :=
  .next (match s.phase.heldFlag with
    | some lost => startUp strap { kind := .pin, trafficLost := lost } s
    | none => s)

/-- STARTUP_CLEARING_DONE (R165 step 3): ticks begin from a prescale count of 0, and the links are released to train. -/
def execStartupClearingDone (s : State) : Result :=
  .next (if s.phase = .clearing then { s with phase := .running, tb := { s.tb with prescale := 0 } } else s)

/-! ### FABRIC_LINK_UP and FABRIC_LINK_LOSS -/

/-- FABRIC_LINK_UP (R165, R168): the link trains once start-up has ended; only the link state changes. -/
def execFabricLinkUp (s : State) : Result :=
  .next (if s.phase = .running then { s with fabric := .up } else s)

/-- R87: an occupied slot ends at fabric link loss and is freed. -/
def loseSlot (s : State) (i : SlotIndex) : State :=
  let sl := s.fu.ort[i]
  if sl.occupied then
    freeSlot i (match sl.kind with
      | .read => refuseSlot sl .upstreamLost s
      | .write => refuseSlot sl .upstreamLost s
      | .postedWrite => logFault (postedFault sl Config.codeLinkLoss) s)
  else s

/-- R65: an UP port refuses its staged request UPSTREAM_LOST; its queue and credits stay. -/
def losePort (s : State) (p : Port) : State :=
  if s.ports[p].link = .up then endStaged .upstreamLost p s else s

/-- R167: the teardown of fabric link loss, in its five steps. The link is DOWN throughout, so no NOTICE or REPLY
leaves. DESIGN CHOICE (log entry 26): a fence reply that a freeing has released and whose FENCE_COMPLETION still waits is
discarded with its record. -/
def fabricLost (s : State) : State :=
  let s0 := { s with
    fabric := .down
    mc := { s.mc with admission := .closed, quiesce := none }
    fu := { s.fu with fences := [] } }
  let s1 := (List.finRange 32).foldl loseSlot s0
  let s2 := (List.finRange 4).foldl losePort s1
  let s3 := endMissUnit .upstreamLost s2
  { s3 with mc := { s3.mc with owner := none, cache := none } }

/-- FABRIC_LINK_LOSS (R167). -/
def execFabricLinkLoss (s : State) : Result := .next (if s.fabric = .up then fabricLost s else s)

end Sys2Proof.Machine
end

