-- ==== Sys2Proof/Machine/Tables.lean ====
section
/-! DEFINITION. The commands over the Mapping Table (01), the Stream Map and Domain Table (02), and the Timebase (04,
R84). -/

namespace Sys2Proof.Machine

/-! ### BIND_STREAM and READ_STREAM -/

/-- R29, R30: the slot is written, its staged requests are marked stale. -/
def bindSlot (p : Port) (st : Stream) (binding : Option Domain) (s : State) : State :=
  markStale (ofStream p st)
    { s with du := { s.du with
      streams := s.du.streams.set p.val (s.du.streams[p].set st.val binding st.isLt) p.isLt } }

/-- R29: BIND STREAM, with the previous binding. -/
def bindStreamBody (c : Command) (s : State) : State × Reply :=
  match c.params with
  | [p, st, b] =>
    match portOf p, streamOf st, bindingOf b with
    | some p, some st, some b => accept [bindingByte s.du.streams[p][st]] (bindSlot p st b s)
    | _, _, _ => reject .badParam s
  | _ => reject .badParam s

/-- BIND_STREAM (R29, R30). -/
def execBindStream (c : Command) (s : State) : Result := .next (takeCommand 0x20 false c (bindStreamBody c) s)

/-- R31: READ STREAM. -/
def readStreamBody (c : Command) (s : State) : State × Reply :=
  match c.params with
  | [p, st] =>
    match portOf p, streamOf st with
    | some p, some st => accept [bindingByte s.du.streams[p][st]] s
    | _, _ => reject .badParam s
  | _ => reject .badParam s

/-- READ_STREAM (R31). -/
def execReadStream (c : Command) (s : State) : Result := .next (takeCommand 0x21 false c (readStreamBody c) s)

/-! ### SET_DOMAIN and READ_DOMAIN -/

/-- R33, R34: all six fields are written together, and the domain's staged requests are marked stale. -/
def writeDomain (d : Domain) (r : DomainRec) (s : State) : State :=
  markStale (ofDomain d) { s with du := { s.du with domains := s.du.domains.set d.val r d.isLt } }

/-- R33: SET DOMAIN. -/
def setDomainBody (c : Command) (s : State) : State × Reply :=
  match setDomainOf c.params with
  | none => reject .badParam s
  | some (d, r) => accept [] (writeDomain d r s)

/-- SET_DOMAIN (R33, R34). -/
def execSetDomain (c : Command) (s : State) : Result := .next (takeCommand 0x22 false c (setDomainBody c) s)

/-- R35, R187: the results of READ DOMAIN. -/
def domainResults (d : Domain) (s : State) : List Byte :=
  let r := s.du.domains[d]
  [r.state.byte, r.policy.byte, r.ceiling.byte, r.quota, r.limit, boolByte r.report, numByte (s.liveMisses d),
   numByte (s.ortUse d)]

/-- R35: READ DOMAIN. -/
def readDomainBody (c : Command) (s : State) : State × Reply :=
  match c.params with
  | [d] =>
    match domainOf d with
    | some d => accept (domainResults d s) s
    | none => reject .badParam s
  | _ => reject .badParam s

/-- READ_DOMAIN (R35). -/
def execReadDomain (c : Command) (s : State) : Result := .next (takeCommand 0x23 false c (readDomainBody c) s)

/-! ### INSTALL and INSTALL_ANY -/

/-- R19: the entry an INSTALL writes. `fabricBase` has passed R12, so its top four bits are zero. -/
def InstallArgs.entry (a : InstallArgs) : Entry :=
  { valid := true, pinned := a.pin, scope := a.scope, size := a.size, clientBase := a.clientBase, node := a.node,
    fabricBase := a.fabricBase.setWidth 44, perms := a.perms, hit := false }

/-- R13: the new entry conflicts with a valid entry other than those `skip` names. -/
def overlapLawBroken (a : InstallArgs) (skip : EntryIndex → Bool) (s : State) : Bool :=
  (List.finRange 64).any fun i => !skip i && s.tu.entries[i].conflicts a.scope a.clientBase.toNat a.size.bytes

/-- R14: a pin request that would raise the pinned count above 48, the entries `skip` names not counted. -/
def pinLimitBroken (a : InstallArgs) (skip : EntryIndex → Bool) (s : State) : Bool :=
  a.pin && decide (Config.maxPinned ≤ s.pinnedBut skip)

/-- R19, R23: the entry is written at `i`, and every staged request recording `i` is marked stale. -/
def writeEntry (i : EntryIndex) (e : Entry) (s : State) : State :=
  markStale (throughEntry i) (s.updEntry i fun _ => e)

/-- R20: the resolve ticket is resolved RETRY, with the outcome byte (R187): NONE 0, DONE 1, STALE 2. -/
def resolveTicket (t : Option Half) (s : State) : State × Byte :=
  match t with
  | none => (s, 0)
  | some t =>
    match s.recordOf t with
    | some _ => (retryRecord t s, 1)
    | none => (s, 2)

/-- R19, R20: placement at `i`, then the resolve ticket; index used, displaced flag, resolve outcome. -/
def placeAt (i : EntryIndex) (a : InstallArgs) (s : State) : State × Reply :=
  let out := resolveTicket a.ticket (writeEntry i a.entry s)
  accept [numByte i.val, boolByte s.tu.entries[i].valid, out.2] out.1

/-- R11 to R15: INSTALL at an explicit index: the checks in order, then placement. The entry at the index is left out
of the overlap check and of the pinned count. -/
def installBody (c : Command) (s : State) : State × Reply :=
  match installOf c.params with
  | none => reject .badParam s
  | some a =>
    match indexOf a.index with
    | none => reject .badParam s
    | some i =>
      if a.bad s.ownNode then reject .badParam s
      else if overlapLawBroken a (fun j => j == i) s then reject .overlap s
      else if pinLimitBroken a (fun j => j == i) s then reject .pinLimit s
      else placeAt i a s

/-- INSTALL (R11 to R15, R19, R20). -/
def execInstall (c : Command) (s : State) : Result := .next (takeCommand 0x30 false c (installBody c) s)

/-- R16: the lowest-numbered invalid entry. -/
def State.lowestInvalid (s : State) : Option EntryIndex := (List.finRange 64).find? fun i => !s.tu.entries[i].valid

/-- The index after `i`, from 63 to 0 (R10). -/
def nextIndex (i : EntryIndex) : EntryIndex := i + 1

/-- R17: the clock sweep from entry `i`, at most `n` entries: pinned entries are passed over, a set hit flag of an
unpinned entry is cleared, and the first unpinned entry with a clear flag is the victim. The table comes back with
the flags the sweep cleared; no victim is found where the sweep would go on for ever. -/
def sweep : Nat → EntryIndex → Vector Entry 64 → Option (EntryIndex × Vector Entry 64)
  | 0, _, _ => none
  | n + 1, i, es =>
    if es[i].pinned then sweep n (nextIndex i) es
    else if es[i].hit then sweep n (nextIndex i) (es.set i.val { es[i] with hit := false } i.isLt)
    else some (i, es)

/-- R18: a sweep ends within two passes over the table. -/
def sweepBound : Nat := 128

/-- R16, R17: where INSTALL ANY places: the lowest invalid entry, nothing else changing, or the sweep's victim, with
the swept hit flags and the clock pointer behind the victim. -/
def State.chooseAny (s : State) : Option (EntryIndex × State) :=
  match s.lowestInvalid with
  | some i => some (i, s)
  | none =>
    match sweep sweepBound s.tu.clock s.tu.entries with
    | some (i, es) => some (i, { s with tu := { entries := es, clock := nextIndex i } })
    | none => none

/-- R11 to R14, R16 to R18: INSTALL ANY; `none` where the sweep would never end. -/
def installAnyBody (c : Command) (s : State) : Option (State × Reply) :=
  match installOf c.params with
  | none => some (reject .badParam s)
  | some a =>
    if a.index ≠ 0xFF then some (reject .badParam s)
    else if a.bad s.ownNode then some (reject .badParam s)
    else if overlapLawBroken a (fun _ => false) s then some (reject .overlap s)
    else if pinLimitBroken a (fun _ => false) s then some (reject .pinLimit s)
    else
      match s.chooseAny with
      | some (i, s1) => some (placeAt i a s1)
      | none => none

/-- INSTALL_ANY (R11 to R14, R16 to R20). It stops where the clock sweep would never end, which R18 excludes (log
entry 15). -/
def execInstallAny (c : Command) (s : State) : Result :=
  match envelope c.source c.sequence (0x30 :: c.params) c.check false s with
  | some s' => .next s'
  | none =>
    match installAnyBody c s with
    | some out => .next (finish c.source c.sequence 0x30 s out)
    | none => .fault .noVictim

/-! ### SET_PIN and READ_ENTRY -/

/-- R21: the reply to a SET PIN that gets OK: the pinned field and the pinned count after the command. -/
def pinReply (i : EntryIndex) (s : State) : State × Reply :=
  accept [boolByte s.tu.entries[i].pinned, numByte s.pinnedCount] s

/-- R21: SET PIN on a valid entry. -/
def pinEntry (i : EntryIndex) (on : Bool) (s : State) : State × Reply :=
  if on then
    if s.tu.entries[i].pinned then pinReply i s
    else if Config.maxPinned ≤ s.pinnedCount then reject .pinLimit s
    else pinReply i (s.updEntry i fun e => { e with pinned := true })
  else pinReply i (s.updEntry i fun e => { e with pinned := false })

/-- R21: SET PIN: the index, the entry's validity, then the setting. -/
def setPinBody (c : Command) (s : State) : State × Reply :=
  match c.params with
  | [x, y] =>
    match indexOf x, boolOf y with
    | some i, some on => if s.tu.entries[i].valid then pinEntry i on s else reject .badParam s
    | _, _ => reject .badParam s
  | _ => reject .badParam s

/-- SET_PIN (R21). -/
def execSetPin (c : Command) (s : State) : Result := .next (takeCommand 0x31 false c (setPinBody c) s)

/-- R22: READ ENTRY. -/
def readEntryBody (c : Command) (s : State) : State × Reply :=
  match c.params with
  | [x] =>
    match indexOf x with
    | some i => accept (s.tu.entries[i].record i) s
    | none => reject .badParam s
  | _ => reject .badParam s

/-- READ_ENTRY (R22). -/
def execReadEntry (c : Command) (s : State) : Result := .next (takeCommand 0x32 false c (readEntryBody c) s)

/-! ### SET_TIMING -/

/-- R84: SET TIMING: the parameters, then idleness, then the three settings with the prescale count at 0. -/
def setTimingBody (c : Command) (s : State) : State × Reply :=
  match setTimingOf c.params with
  | none => reject .badParam s
  | some (p, m, u) =>
    if s.idle then accept [] { s with tb := { period := p, missTimeout := m, upstreamTimeout := u, prescale := 0 } }
    else reject .wrongState s

/-- SET_TIMING (R84). -/
def execSetTiming (c : Command) (s : State) : Result := .next (takeCommand 0x18 false c (setTimingBody c) s)

end Sys2Proof.Machine
end

