-- ==== Sys2Proof/Machine/Timebase.lean ====
section
/-! DEFINITION. The Timebase (04, section 4.7): ticks, reference clock cycles, and the events that are taken before time
passes. -/

namespace Sys2Proof.Machine

/-! ### What is taken before time passes -/

/-- R79, R122: a slot whose timer has reached zero expires, and the fences whose captured sets that empties are replied
to. -/
def expireIfDue (s : State) (i : SlotIndex) : State :=
  if s.fu.ort[i].occupied ∧ s.fu.ort[i].timer = 0 then completeDueFences (expireSlot i s) else s

/-- R98: every live record whose timer has reached zero expires, in creation order. -/
def expireRecords (s : State) : State :=
  ((s.mu.records.filter fun m => m.timer == 0).map MissRec.ticket).foldl expireTicket s

/-- R83, R98, R124: what a timer at zero calls for, each an event of its own: the fence replies that are due, the expired
slots in ascending order, each with the fence replies its freeing makes due, the expired records in creation order,
and the end of a drain. A timer expires at the tick that brings it to zero, so no time passes before these (log entry
21). -/
def settle (s : State) : State :=
  endDrain (expireRecords ((List.finRange 32).foldl expireIfDue (completeDueFences s)))

/-! ### TICK and the reference clock -/

/-- R83: one tick of a running timer. -/
def lowered (t : Byte) : Byte := if t = 0 then 0 else t - 1

/-- R82, R83: a tick event: the prescale count returns to 0 and every running timer is lowered by one. -/
def tickAll (s : State) : State :=
  { s with
    tb := { s.tb with prescale := 0 }
    fu := { s.fu with
      ort := mapTable (fun sl => if sl.occupied then { sl with timer := lowered sl.timer } else sl) s.fu.ort }
    mu := { s.mu with records := s.mu.records.map fun m => { m with timer := lowered m.timer } } }

/-- TICK (R82): the cycles left up to the next tick pass, and the tick is produced (log entry 3); before any of them
passes, what the last tick called for is taken (log entry 21). Ticks are produced once start-up has ended (R165). -/
def execTick (s : State) : Result := .next (if s.phase = .running then tickAll (settle s) else s)

/-- One cycle of REFCLK (R82): the prescale count rises by one, and at the period's prescale a tick is produced. It
is what a step does on an empty queue while no event is due (log entry 2). -/
def refClock (s : State) : State :=
  if s.phase = .running then
    if s.tb.period.prescale ≤ s.tb.prescale + 1 then tickAll s
    else { s with tb := { s.tb with prescale := s.tb.prescale + 1 } }
  else s

end Sys2Proof.Machine
end

