-- ==== Sys2Proof/Machine/Dispatch.lean ====
section
/-! DEFINITION. The meaning of every command: one arm for each row of spec/opcode_table.json, in its order. -/

namespace Sys2Proof.Machine

/-- The effect of a command on everything but the queue. -/
def exec (i : Instr) (s : State) : Host.Outcome State Fault Refusal :=
  match i with
  | .powerOn strap => Sys2Proof.Machine.execPowerOn strap s
  | .pinResetAssert => Sys2Proof.Machine.execPinResetAssert s
  | .pinResetRelease strap => Sys2Proof.Machine.execPinResetRelease strap s
  | .startupClearingDone => Sys2Proof.Machine.execStartupClearingDone s
  | .clientLinkUp p => Sys2Proof.Machine.execClientLinkUp p s
  | .clientLinkDown p => Sys2Proof.Machine.execClientLinkDown p s
  | .fabricLinkUp => Sys2Proof.Machine.execFabricLinkUp s
  | .fabricLinkLoss => Sys2Proof.Machine.execFabricLinkLoss s
  | .clientPacketArrival p frame => Sys2Proof.Machine.execClientPacketArrival p frame s
  | .headProcessing p => Sys2Proof.Machine.execHeadProcessing p s
  | .portStaleRelookup p => Sys2Proof.Machine.execPortStaleRelookup p s
  | .grant => Sys2Proof.Machine.execGrant s
  | .readData r => Sys2Proof.Machine.execReadData r s
  | .writeAck r => Sys2Proof.Machine.execWriteAck r s
  | .fabricError r => Sys2Proof.Machine.execFabricError r s
  | .fabricBadFrame frame => Sys2Proof.Machine.execFabricBadFrame frame s
  | .foreignPacket destination => Sys2Proof.Machine.execForeignPacket destination s
  | .unsolicitedPacket source kind => Sys2Proof.Machine.execUnsolicitedPacket source kind s
  | .tick => Sys2Proof.Machine.execTick s
  | .upstreamTimerExpiry slot => Sys2Proof.Machine.execUpstreamTimerExpiry slot s
  | .missTimerExpiry ticket => Sys2Proof.Machine.execMissTimerExpiry ticket s
  | .replayProcessing => Sys2Proof.Machine.execReplayProcessing s
  | .rpStaleRelookup => Sys2Proof.Machine.execRpStaleRelookup s
  | .fenceCompletion => Sys2Proof.Machine.execFenceCompletion s
  | .drainCompletion => Sys2Proof.Machine.execDrainCompletion s
  | .claim c => Sys2Proof.Machine.execClaim c s
  | .relinquish c => Sys2Proof.Machine.execRelinquish c s
  | .status c => Sys2Proof.Machine.execStatus c s
  | .openCmd c => Sys2Proof.Machine.execOpen c s
  | .close c => Sys2Proof.Machine.execClose c s
  | .quiesce c => Sys2Proof.Machine.execQuiesce c s
  | .release c => Sys2Proof.Machine.execRelease c s
  | .resetTraffic c => Sys2Proof.Machine.execResetTraffic c s
  | .resetFull c => Sys2Proof.Machine.execResetFull c s
  | .setTiming c => Sys2Proof.Machine.execSetTiming c s
  | .bindStream c => Sys2Proof.Machine.execBindStream c s
  | .readStream c => Sys2Proof.Machine.execReadStream c s
  | .setDomain c => Sys2Proof.Machine.execSetDomain c s
  | .readDomain c => Sys2Proof.Machine.execReadDomain c s
  | .install c => Sys2Proof.Machine.execInstall c s
  | .installAny c => Sys2Proof.Machine.execInstallAny c s
  | .setPin c => Sys2Proof.Machine.execSetPin c s
  | .readEntry c => Sys2Proof.Machine.execReadEntry c s
  | .invalidateIndex c => Sys2Proof.Machine.execInvalidateIndex c s
  | .invalidateDomain c => Sys2Proof.Machine.execInvalidateDomain c s
  | .invalidateRange c => Sys2Proof.Machine.execInvalidateRange c s
  | .invalidateUnpinned c => Sys2Proof.Machine.execInvalidateUnpinned c s
  | .invalidateAll c => Sys2Proof.Machine.execInvalidateAll c s
  | .fence c => Sys2Proof.Machine.execFence c s
  | .resolveRetry c => Sys2Proof.Machine.execResolveRetry c s
  | .resolveDeny c => Sys2Proof.Machine.execResolveDeny c s
  | .readMisses c => Sys2Proof.Machine.execReadMisses c s
  | .logRead c => Sys2Proof.Machine.execLogRead c s
  | .unknownCommand source sequence payload check => Sys2Proof.Machine.execUnknownCommand source sequence payload check s

end Sys2Proof.Machine
end

