-- ==== Sys2Proof/Machine/Due.lean ====
section
/-! DEFINITION. The events the part takes by itself, and when each is due (R53, R59, R69, R79, R98, R105, R107, R122,
R157). A due event is taken when it comes to the front of the queue, or by the part itself where the queue is empty;
an event that is not due leaves the part as it was (log entries 1, 2 and 4). -/

namespace Sys2Proof.Machine

/-- R83: the slots whose upstream timer has reached zero. -/
def State.expiredSlots (s : State) : List SlotIndex :=
  (List.finRange 32).filter fun i => s.fu.ort[i].occupied && s.fu.ort[i].timer == 0

/-- R59: the port's staged request is stale. -/
def State.portStale (p : Port) (s : State) : Bool :=
  match s.ports[p].staging with
  | some q => q.stale
  | none => false

/-- R53: the port's queue is not empty and its staging position is empty. -/
def State.headWaits (p : Port) (s : State) : Bool := !s.ports[p].queue.isEmpty && s.ports[p].staging.isNone

/-- R107: the request at RP is stale. -/
def State.rpStale (s : State) : Bool :=
  match s.mu.rp with
  | some q => q.stale
  | none => false

/-- R105: the first entry of the Replay Queue waits with RP empty. -/
def State.replayWaits (s : State) : Bool := s.mu.rp.isNone && !s.replayQueue.isEmpty

/-- The due events that a timer at zero calls for (R79, R98), and the fence reply and the end of a drain that follow a
freeing (R122, R157): no time passes before them (log entry 21). -/
def State.timed (s : State) : List Instr :=
  (if s.fenceDue then [.fenceCompletion] else [])
  ++ (if s.mc.admission == .draining && s.quiet then [.drainCompletion] else [])
  ++ s.expiredSlots.map .upstreamTimerExpiry
  ++ (s.mu.records.filter fun m => m.timer == 0).map (fun m => .missTimerExpiry m.ticket)

/-- The events that are due, in the order in which a part with an empty queue takes them (log entry 2). -/
def State.due (s : State) : List Instr :=
  s.timed
  ++ ((List.finRange 4).filter fun p => s.portStale p).map .portStaleRelookup
  ++ ((List.finRange 4).filter fun p => s.headWaits p).map .headProcessing
  ++ (if s.rpStale then [.rpStaleRelookup] else [])
  ++ (if s.replayWaits then [.replayProcessing] else [])
  ++ (if s.fabric == .up && s.winner.isSome then [.grant] else [])

/-- The events of the table that the part takes by itself; the others come from outside or from the Timebase. -/
def byItself : Instr → Bool
  | .headProcessing _ | .portStaleRelookup _ | .grant | .upstreamTimerExpiry _ | .missTimerExpiry _
  | .replayProcessing | .rpStaleRelookup | .fenceCompletion | .drainCompletion => true
  | .powerOn _ | .pinResetAssert | .pinResetRelease _ | .startupClearingDone | .clientLinkUp _ | .clientLinkDown _
  | .fabricLinkUp | .fabricLinkLoss | .clientPacketArrival _ _ | .readData _ | .writeAck _ | .fabricError _
  | .fabricBadFrame _ | .foreignPacket _ | .unsolicitedPacket _ _ | .tick | .claim _ | .relinquish _ | .status _
  | .openCmd _ | .close _ | .quiesce _ | .release _ | .resetTraffic _ | .resetFull _ | .setTiming _ | .bindStream _
  | .readStream _ | .setDomain _ | .readDomain _ | .install _ | .installAny _ | .setPin _ | .readEntry _
  | .invalidateIndex _ | .invalidateDomain _ | .invalidateRange _ | .invalidateUnpinned _ | .invalidateAll _
  | .fence _ | .resolveRetry _ | .resolveDeny _ | .readMisses _ | .logRead _ | .unknownCommand _ _ _ _ => false

end Sys2Proof.Machine
end

