-- ==== Sys2Proof/Machine/Step.lean ====
section
/-! DEFINITION. The step: the command at the front of the queue, or, where none waits, an event that is due or one cycle
of REFCLK; and the ways by which the outside puts commands into the queue. -/

namespace Sys2Proof.Machine

/-- One step of the part. The queue's front is taken and run with the queue's rest. On an empty queue the part takes
the first event that is due, and with none due one reference clock cycle passes (R82; DESIGN CHOICE, log entry 2). -/
def step (s : State) : Host.Outcome State Fault Refusal :=
  match s.pending with
  | c :: rest => exec c { s with pending := rest }
  | [] =>
    match s.due with
    | event :: _ => exec event s
    | [] => .next (refClock s)

/-- The command that a word of the opcode table spells, put at the front of the queue. The table gives no row any
bits, so no word spells a command and the state is unchanged (log entries 18 and 19). -/
def State.withFetchWord (s : State) (nbits w : Nat) : State :=
  match decodeTableWord nbits w with
  | some c => { s with pending := c :: s.pending }
  | none => s

/-- A frame arrives whole on the fabric link: the row its bytes spell to the part's own node joins the queue (R73). -/
def State.arriveFabric (frame : List Byte) (s : State) : State :=
  { s with pending := s.pending ++ [fabricRow s.ownNode frame] }

/-- A frame arrives whole on a client link (R50). -/
def State.arriveClient (p : Port) (frame : List Byte) (s : State) : State :=
  { s with pending := s.pending ++ [.clientPacketArrival p frame] }

end Sys2Proof.Machine
end

