-- ==== Sys2Proof/Safety.lean ====
section
/-! DEFINITION. What the spec promises of every state the part can be in, one predicate for each law, and what counts
as a safe step. -/

namespace Sys2Proof.Machine

/-! ### The laws of the blocks -/

/-- R45: with its link UP, a port's credits and occupied queue slots make 8; with it DOWN, it holds nothing. A staged
request of a port names that port (R28, R58). -/
abbrev State.CreditLaw (s : State) : Prop :=
  ∀ p : Port,
    (s.ports[p].link = .up → s.ports[p].credits + s.ports[p].queue.length = Config.queueCapacity) ∧
    (s.ports[p].link = .down → s.ports[p] = PortState.cleared) ∧
    ∀ q, s.ports[p].staging = some q → q.req.port = p

/-- R3: at most 48 pinned entries, and no invalid entry is pinned or shows a hit (R24, R25). -/
abbrev State.PinLaw (s : State) : Prop :=
  s.pinnedCount ≤ Config.maxPinned ∧
  ∀ i : EntryIndex, s.tu.entries[i].valid = false → s.tu.entries[i].pinned = false ∧ s.tu.entries[i].hit = false

/-- R13: no two valid entries that some domain both sees overlap. -/
abbrev State.OverlapLaw (s : State) : Prop :=
  ∀ i j : EntryIndex, i ≠ j → s.tu.entries[i].valid = true →
    s.tu.entries[j].conflicts s.tu.entries[i].scope s.tu.entries[i].clientBase.toNat s.tu.entries[i].size.bytes = false

/-- R1: the constraints on a valid entry. -/
abbrev Entry.Sound (own : Byte) (e : Entry) : Prop :=
  e.valid = true →
    e.clientBase.toNat % e.size.bytes = 0 ∧ e.fabricBase.toNat % e.size.bytes = 0 ∧
    e.fabricBase.toNat + e.size.bytes ≤ 2 ^ 44 ∧ e.node ≠ own ∧ (e.perms.r = true ∨ e.perms.w = true) ∧
    (e.perms.p = true → e.perms.w = true)

/-- R1: every valid entry keeps the constraints. -/
abbrev State.EntryLaw (s : State) : Prop := ∀ i : EntryIndex, s.tu.entries[i].Sound s.ownNode

/-- R32, R33: every domain record's quota is 1 to 16 and its limit 1 to 32. -/
abbrev State.DomainLaw (s : State) : Prop :=
  ∀ d : Domain,
    (1 ≤ s.du.domains[d].quota.toNat ∧ s.du.domains[d].quota.toNat ≤ 16) ∧
    (1 ≤ s.du.domains[d].limit.toNat ∧ s.du.domains[d].limit.toNat ≤ 32)

/-- R118: at most 4 fence records, told apart by their ids; every captured slot is occupied, none twice. -/
abbrev State.FenceLaw (s : State) : Prop :=
  s.fu.fences.length ≤ Config.fenceCapacity ∧
  (s.fu.fences.map FenceRec.id).Nodup ∧
  (∀ f ∈ s.fu.fences, f.id < s.fu.nextFence ∧ f.captured.Nodup ∧
    ∀ i ∈ f.captured, s.fu.ort[i].occupied = true)

/-- R133, R135: the deferred reply that a PENDING cache entry names is pending, under the node, sequence and code of the
entry; and an entry is of another node than the part's own (R147). -/
abbrev State.CacheLaw (s : State) : Prop :=
  ∀ e, s.mc.cache = some e →
    e.source ≠ s.ownNode ∧
    (∀ id, e.answer = .pendingFence id →
      ∃ f ∈ s.fu.fences, f.id = id ∧ f.node = e.source ∧ f.sequence = e.sequence ∧ f.command.code = e.code) ∧
    (e.answer = .pendingQuiesce →
      e.code = 0x12 ∧ s.mc.quiesce = some { node := e.source, sequence := e.sequence })

/-- R124: no running upstream timer exceeds the upstream timeout setting. -/
abbrev State.TimerLaw (s : State) : Prop :=
  ∀ i : SlotIndex, s.fu.ort[i].occupied = true → s.fu.ort[i].timer.toNat ≤ s.tb.upstreamTimeout.toNat

/-- R91: at most 16 live records, no two with one ticket, no two with one domain and page. -/
abbrev State.RecordLaw (s : State) : Prop :=
  s.mu.records.length ≤ Config.missCapacity ∧
  (s.mu.records.map MissRec.ticket).Nodup ∧
  (s.mu.records.map fun m => (m.domain, m.page)).Nodup

/-- R89: at most 32 held requests; each one held under a ticket is held under a live record of its domain and page,
and every live record holds at least one request (R90). -/
abbrev State.HeldLaw (s : State) : Prop :=
  s.mu.held.length ≤ Config.heldCapacity ∧
  (∀ h ∈ s.mu.held, ∀ t, h.place = .held t →
    ∃ m ∈ s.mu.records, m.ticket = t ∧ m.domain = h.domain ∧ m.page = pageOf h.req.address) ∧
  (∀ m ∈ s.mu.records, ∃ h ∈ s.mu.held, h.place = .held m.ticket)

/-- R103: a request staged in RP is the first entry of the Replay Queue. -/
abbrev State.RpLaw (s : State) : Prop :=
  ∀ q, s.mu.rp = some q → ∃ h rest, s.replayQueue = h :: rest ∧ h.req = q.req ∧ h.domain = q.domain

/-- R173, R178: the log holds at most 16 records, and a counted overflow means it is not empty. -/
abbrev State.LogLaw (s : State) : Prop :=
  s.fl.records.length ≤ Config.logCapacity ∧ (s.fl.overflow ≠ 0 → s.fl.records ≠ [])

/-- R137, R152: the part has an owner while admission is OPEN or DRAINING, and the owner is not its own node. -/
abbrev State.OwnerLaw (s : State) : Prop :=
  ((s.mc.admission = .opened ∨ s.mc.admission = .draining) → s.mc.owner.isSome = true) ∧
  s.mc.owner ≠ some s.ownNode

/-- R96, R109: no live record outlasts the owner it notified. -/
abbrev State.NotifiedLaw (s : State) : Prop := s.mc.owner = none → s.mu.records = []

/-- R155: the pending QUIESCE is present exactly while admission is DRAINING. -/
abbrev State.QuiesceLaw (s : State) : Prop := s.mc.quiesce.isSome = true ↔ s.mc.admission = .draining

/-- R157, R158: while admission is QUIESCED the part is drained, and no fence reply is left to send. -/
abbrev State.QuietLaw (s : State) : Prop := s.mc.admission = .quiesced → s.quiet = true

/-- R82, R84: the timeout settings are at least one tick, and the prescale count stays below the period's prescale. -/
abbrev State.TimingLaw (s : State) : Prop :=
  1 ≤ s.tb.missTimeout.toNat ∧ 1 ≤ s.tb.upstreamTimeout.toNat ∧ s.tb.prescale < s.tb.period.prescale

/-! ### Translations that may be granted -/

/-- The translation a staged request holds is one the tables give now: its entry is valid, matches the request for its
domain, translates to the recorded node and fabric address, and allows the request under the domain's ceiling; and
the domain is ACTIVE (R4 to R6, R36). -/
abbrev State.Current (s : State) (q : Staged) : Prop :=
  let e := s.tu.entries[q.entry]
  e.matchesAt q.domain q.req.address = true ∧ e.node = q.node ∧ e.translate q.req.address = q.fabricAddress ∧
  (s.effective q.domain e).allows q.req.kind = true ∧ s.du.domains[q.domain].state = .active

/-- R8, R23, R30, R34: every staged request that is not stale, and so could be granted, holds a current translation;
at a client port its stream is still bound to its domain. -/
abbrev State.TranslationLaw (s : State) : Prop :=
  (∀ p : Port, ∀ q, s.ports[p].staging = some q → q.stale = false →
    s.Current q ∧ s.du.streams[p][q.req.stream] = some q.domain) ∧
  (∀ q, s.mu.rp = some q → q.stale = false → s.Current q)

/-! ### Safe steps -/

/-- A step of the part is safe: it goes on. -/
abbrev Safe (s : State) : Prop := ∃ t, step s = .next t

end Sys2Proof.Machine
end

