-- ==== Sys2Proof/Machine/Claims.lean ====
section
/-! DEFINITION. The words in which the statements about the part are written: when a COMMAND reaches its execution, how
it is answered, how a head leaves its queue, how a request is refused, the order of the arbiter's rotation, and what a
RESET and a fabric link loss send. They are written from the rules, beside the operations the meanings use. -/

namespace Sys2Proof.Machine

/-! ### COMMAND packets -/

/-- The rows of COMMAND packets that only the owner may send, with their codes (R140, R148). -/
def ownerRows : List (Byte × (Command → Instr)) :=
  [(0x02, .relinquish), (0x10, .openCmd), (0x11, .close), (0x12, .quiesce), (0x13, .release), (0x14, .resetTraffic),
   (0x14, .resetFull), (0x18, .setTiming), (0x20, .bindStream), (0x21, .readStream), (0x22, .setDomain),
   (0x23, .readDomain), (0x30, .install), (0x30, .installAny), (0x31, .setPin), (0x32, .readEntry),
   (0x33, .invalidateIndex), (0x33, .invalidateDomain), (0x33, .invalidateRange), (0x33, .invalidateUnpinned),
   (0x33, .invalidateAll), (0x34, .fence), (0x40, .resolveRetry), (0x40, .resolveDeny), (0x41, .readMisses),
   (0x50, .logRead)]

/-- The rows of COMMAND packets of the catalogue, with their codes (R148). -/
def commandRows : List (Byte × (Command → Instr)) := [(0x01, .claim), (0x03, .status)] ++ ownerRows

/-- R131 step 1: the command arrives over an UP link with a good payload check from another node. -/
abbrev Intact (code : Byte) (c : Command) (s : State) : Prop :=
  s.fabric = .up ∧ c.check = checkWord (code :: c.params) ∧ c.source ≠ s.ownNode

/-- R131 step 2: the replay cache does not hold the command's node and sequence. -/
abbrev Fresh (c : Command) (s : State) : Prop :=
  ∀ e, s.mc.cache = some e → e.source = c.source → e.sequence ≠ c.sequence

/-- R131 steps 1 to 3: a command of the owner that reaches its execution. -/
abbrev FromOwner (code : Byte) (c : Command) (s : State) : Prop :=
  Intact code c s ∧ Fresh c s ∧ s.mc.owner = some c.source

/-- R130, R185, R187: the REPLY to a node. -/
def State.replyTo (s : State) (node sequence code : Byte) (status : ReplyStatus) (results : List Byte) : Sent :=
  .fabric { kind := 0x61, status := status.byte, source := s.ownNode, destination := node, tag := 0,
            sequence := sequence, length := BitVec.ofNat 16 (results.length + 1), address := 0,
            payload := code :: results }

/-- R130: the reply leaves, and nothing else changes. -/
def State.replied (code : Byte) (c : Command) (status : ReplyStatus) (results : List Byte) (s : State) : State :=
  { s with sent := s.sent ++ [s.replyTo c.source c.sequence code status results] }

/-- R130, R134: the reply leaves and is entered in the replay cache, and nothing else changes. -/
def State.answered (code : Byte) (c : Command) (status : ReplyStatus) (results : List Byte) (s : State) : State :=
  { s with
    sent := s.sent ++ [s.replyTo c.source c.sequence code status results]
    mc := { s.mc with cache := some { source := c.source, sequence := c.sequence, code := code,
                                      answer := .stored status results } } }

/-- R134: the reply is deferred, and the cache entry is PENDING and names it. -/
def State.deferred (code : Byte) (c : Command) (name : Answer) (s : State) : State :=
  { s with mc := { s.mc with cache := some { source := c.source, sequence := c.sequence, code := code,
                                             answer := name } } }

/-- The parameter width R187 gives each owner command, by its code (R188). -/
def paramWidth : List (Byte × Nat) :=
  [(0x02, 0), (0x10, 0), (0x11, 0), (0x12, 0), (0x13, 0), (0x14, 1), (0x18, 3), (0x20, 3), (0x21, 2), (0x22, 7),
   (0x23, 1), (0x30, 16), (0x31, 2), (0x32, 1), (0x33, 11), (0x34, 0), (0x40, 3), (0x41, 1), (0x50, 1)]

/-- R61, R64, R86, R112, R126, R162 steps 2 to 6: what both kinds of RESET leave of the traffic, from `s` to `t`. -/
abbrev TrafficEnded (s t : State) : Prop :=
  (∀ p : Port, t.ports[p] =
    if s.ports[p].link = .up then
      { s.ports[p] with queue := [], staging := none, credits := s.ports[p].credits + s.ports[p].queue.length }
    else s.ports[p]) ∧
  (∀ i : SlotIndex, t.fu.ort[i] = { s.fu.ort[i] with occupied := false }) ∧ t.fu.fences = [] ∧
  t.fu.nextFence = s.fu.nextFence ∧ t.mu = { s.mu with records := [], held := [], rp := none } ∧
  t.mc.admission = .closed ∧ t.mc.quiesce = none ∧ t.mc.noticeSeq = s.mc.noticeSeq ∧
  t.fl.sequence = s.fl.sequence ∧ t.fabric = s.fabric ∧ t.strap = s.strap ∧ t.phase = s.phase ∧ t.pending = s.pending

/-! ### The Mapping Table -/

/-- R1, R12: the parameters of an INSTALL that fit the rules for an entry of a part with this node. -/
abbrev Fits (own : Byte) (a : InstallArgs) : Prop :=
  a.clientBase.toNat % a.size.bytes = 0 ∧ a.fabricBase.toNat % a.size.bytes = 0 ∧
  a.fabricBase.toNat + a.size.bytes ≤ 2 ^ 44 ∧ a.node ≠ own ∧ (a.perms.r = true ∨ a.perms.w = true) ∧
  (a.perms.p = true → a.perms.w = true)

/-- R13: a valid entry other than those `skip` names has a meeting scope and a range that shares an address. -/
abbrev Clashes (a : InstallArgs) (skip : EntryIndex → Prop) (s : State) : Prop :=
  ∃ j : EntryIndex, ¬ skip j ∧ s.tu.entries[j].valid = true ∧
    (a.scope = .shared ∨ s.tu.entries[j].scope = .shared ∨ a.scope = s.tu.entries[j].scope) ∧
    a.clientBase.toNat < s.tu.entries[j].clientBase.toNat + s.tu.entries[j].size.bytes ∧
    s.tu.entries[j].clientBase.toNat < a.clientBase.toNat + a.size.bytes

/-- R3: the pinned count. -/
def State.pins (s : State) : Nat :=
  ((List.finRange 64).filter fun j => s.tu.entries[j].valid && s.tu.entries[j].pinned).length

/-- R19: the entry an INSTALL writes. -/
def InstallArgs.written (a : InstallArgs) : Entry :=
  { valid := true, pinned := a.pin, scope := a.scope, size := a.size, clientBase := a.clientBase, node := a.node,
    fabricBase := a.fabricBase.setWidth 44, perms := a.perms, hit := false }

/-- R19, R23: the entry is written at `i`, and every staged request that records `i` is marked stale. -/
def State.placed (i : EntryIndex) (a : InstallArgs) (s : State) : State :=
  markStale (fun q => decide (q.entry = i))
    { s with tu := { s.tu with entries := s.tu.entries.set i.val a.written i.isLt } }

/-- R24, R115, R116: the valid entries that `named` names are invalid, unpinned and not hit, and every staged request
that records one of them is marked stale. -/
def State.invalidated (named : EntryIndex → Entry → Bool) (s : State) : State :=
  markStale (fun q => s.tu.entries[q.entry].valid && named q.entry s.tu.entries[q.entry])
    { s with tu := { s.tu with entries := Vector.ofFn fun i =>
      if s.tu.entries[i].valid = true ∧ named i s.tu.entries[i] = true then
        { s.tu.entries[i] with valid := false, pinned := false, hit := false }
      else s.tu.entries[i] } }

/-- R115: how many valid entries `named` names. -/
def State.countNamed (named : EntryIndex → Entry → Bool) (s : State) : Nat :=
  ((List.finRange 64).filter fun i => s.tu.entries[i].valid && named i s.tu.entries[i]).length

/-- R114, R115: what the row, selector byte, third parameter byte, base and length of an INVALIDATE name. -/
abbrev Selects (row : Command → Instr) (selector x : Byte) (base length : Nat) (named : EntryIndex → Entry → Bool) :
    Prop :=
  (row = .invalidateIndex ∧ selector = 1 ∧ ∃ i : EntryIndex, x.toNat = i.val ∧ named = fun j _ => decide (j = i)) ∨
  (row = .invalidateDomain ∧ selector = 2 ∧
    ∃ d : Domain, x.toNat = d.val ∧ named = fun _ e => decide (e.scope = .domain d)) ∨
  (row = .invalidateRange ∧ selector = 3 ∧ length ≠ 0 ∧ base + length ≤ 2 ^ 32 ∧
    ∃ sc : Scope, (x = 0xFF ∧ sc = .shared ∨ ∃ d : Domain, x.toNat = d.val ∧ sc = .domain d) ∧
      named = fun _ e => decide (e.scope = sc ∧ e.clientBase.toNat < base + length ∧
        base < e.clientBase.toNat + e.size.bytes)) ∨
  (row = .invalidateUnpinned ∧ selector = 4 ∧ named = fun _ e => !e.pinned) ∨
  (row = .invalidateAll ∧ selector = 5 ∧ named = fun _ _ => true)

/-- R118, R119, R120: a fence record that captures the occupied slots joins the end of the Fence List. -/
def State.fenced (command : FenceCommand) (c : Command) (count : Nat) (s : State) : State :=
  { s with fu := { s.fu with
    fences := s.fu.fences ++ [{ id := s.fu.nextFence, command := command, sequence := c.sequence, node := c.source,
                                count := count, captured := s.occupiedSlots }]
    nextFence := s.fu.nextFence + 1 } }

/-! ### Client links -/

/-- R60, R47: a packet handed to a port; a port whose link is DOWN discards it. -/
def State.told (p : Port) (k : ClientPacket) (s : State) : State :=
  { s with sent := if s.ports[p].link = .up then s.sent ++ [.client p k] else s.sent }

/-- R61, R183: a CREDIT packet. -/
def creditOf (n : Half) : ClientPacket :=
  { kind := 0x30, streamByte := 0, tag := 0, code := 0, length := n, address := 0, payload := [] }

/-- R183: a packet answering a request: READ DATA, WRITE DONE or REFUSED by its kind. -/
def answerOf (kind code : Byte) (payload : List Byte) (r : Request) : ClientPacket :=
  { kind := kind, streamByte := BitVec.ofNat 8 r.stream.val, tag := r.tag, code := code, length := r.length,
    address := r.address, payload := payload }

/-- 00, section 5: a request is refused: a READ or WRITE is told so on its port, a POSTED WRITE is dropped. -/
def State.refused (code : RefusalCode) (r : Request) (s : State) : State :=
  if r.kind = .postedWrite then s else s.told r.port (answerOf 0x2F code.byte [] r)

/-- R42: a refusal ACCESS, NO_MAP or DENIED is reported to the Fault Log where the domain's report flag is yes. -/
def State.reported (code : RefusalCode) (d : Domain) (r : Request) (s : State) : State :=
  if s.du.domains[d].report = true then
    logFault { sequence := 0, kind := .refusal, source := .port r.port, stream := some r.stream, domain := some d,
               address := some r.address, ticket := none, tag := none, code := some (code.byte.setWidth 16) } s
  else s

/-- R53: the head leaves its queue: its credit comes back, in a CREDIT granting 1. -/
def State.headLeft (p : Port) (rest : List RxPacket) (s : State) : State :=
  { s with
    ports := s.ports.set p.val { s.ports[p] with queue := rest, credits := s.ports[p].credits + 1 } p.isLt
    sent := s.sent ++ [.client p (creditOf 1)] }

/-- The port is UP, `pkt` is at the head of its queue, and its staging position is empty (R53). -/
abbrev State.HeadAt (p : Port) (pkt : RxPacket) (rest : List RxPacket) (s : State) : Prop :=
  s.ports[p].link = .up ∧ s.ports[p].queue = pkt :: rest ∧ s.ports[p].staging = none

/-- The state with the staging position of a port emptied. -/
def State.unstaged (p : Port) (s : State) : State :=
  { s with ports := s.ports.set p.val { s.ports[p] with staging := none } p.isLt }

/-- R4: no entry matches the lookup. -/
abbrev State.Misses (d : Domain) (a : Addr) (s : State) : Prop :=
  ∀ i : EntryIndex, s.tu.entries[i].matchesAt d a = false

/-- R5, R6: the permissions of an entry and a ceiling, together, that a request of kind `k` needs. -/
abbrev Permits (k : ReqKind) (entry ceiling : Perms) : Prop :=
  match k with
  | .read => entry.r = true ∧ ceiling.r = true
  | .write => entry.w = true ∧ ceiling.w = true
  | .postedWrite => (entry.w = true ∧ ceiling.w = true) ∧ entry.p = true ∧ ceiling.p = true

/-- R5, R58: what a lookup of `r` for domain `d` through entry `i` stages. -/
def State.stagedBy (r : Request) (d : Domain) (i : EntryIndex) (s : State) : Staged :=
  { req := r, domain := d, node := s.tu.entries[i].node,
    fabricAddress := s.tu.entries[i].fabricBase + (r.address - s.tu.entries[i].clientBase).setWidth 44,
    entry := i, stale := false }

/-- R7: the state with the hit flag of entry `i` set. -/
def State.hitOn (i : EntryIndex) (s : State) : State :=
  { s with tu := { s.tu with entries := s.tu.entries.set i.val { s.tu.entries[i] with hit := true } i.isLt } }

/-- R58: the state with a request staged at a port. -/
def State.stagedIn (p : Port) (q : Staged) (s : State) : State :=
  { s with ports := s.ports.set p.val { s.ports[p] with staging := some q } p.isLt }

/-- R94: a request joins the record with ticket `t`. -/
def State.joined (r : Request) (d : Domain) (t : Half) (s : State) : State :=
  { s with mu := { s.mu with
    held := s.mu.held ++ [{ req := r, domain := d, place := .held t }]
    records := s.mu.records.map fun m =>
      if m.ticket = t then
        { m with wanted := { r := m.wanted.r || decide (r.kind = .read), w := m.wanted.w || decide (r.kind ≠ .read),
                             p := m.wanted.p || decide (r.kind = .postedWrite) } }
      else m } }

/-- R92, R95, R96, R191: a record with ticket `t` is created for a request, and its MISS notice leaves to node `o`. -/
def State.created (r : Request) (d : Domain) (t : Half) (o : Byte) (s : State) : State :=
  let needR := decide (r.kind = .read)
  let needW := decide (r.kind ≠ .read)
  let needP := decide (r.kind = .postedWrite)
  let page : BitVec 20 := r.address.extractLsb' 12 20
  { s with
    mu := { s.mu with
      held := s.mu.held ++ [{ req := r, domain := d, place := .held t }]
      records := s.mu.records ++
        [{ ticket := t, domain := d, page := page, wanted := { r := needR, w := needW, p := needP },
           firstPort := r.port, firstStream := r.stream, timer := s.tb.missTimeout }]
      ticket := t + 1 }
    mc := { s.mc with noticeSeq := s.mc.noticeSeq + 1 }
    sent := s.sent ++ [.fabric
      { kind := 0x62, status := 0, source := s.ownNode, destination := o, tag := 0, sequence := s.mc.noticeSeq,
        length := 10, address := 0
        payload := [1] ++ be16 t ++ [BitVec.ofNat 8 d.val] ++ be20 page ++
          [(if needR then 4 else 0) + (if needW then 2 else 0) + (if needP then 1 else 0),
           BitVec.ofNat 8 r.port.val, BitVec.ofNat 8 r.stream.val] }] }

/-! ### The arbiter -/

/-- The place of a requester in the fixed order (R68). -/
def Requester.rank : Requester → Nat
  | .cp p => p.val
  | .rp => 4

/-- R69: how many requesters the arbiter passes before it looks at `r`, its pointer naming `ptr`. -/
def Requester.after (ptr r : Requester) : Nat := (r.rank + 4 - ptr.rank) % 5

/-- R68: `r` holds `q` and may be granted a slot. -/
abbrev State.Ready (r : Requester) (q : Staged) (s : State) : Prop :=
  s.stagedAt r = some q ∧ q.stale = false ∧
  s.ortUse q.domain < s.du.domains[q.domain].limit.toNat

/-- R81 steps 2 to 4: the slot is free, keeps its other fields, and has left every captured set. -/
def State.freed (i : SlotIndex) (s : State) : State :=
  { s with fu := { s.fu with
    ort := s.fu.ort.set i.val { s.fu.ort[i] with occupied := false } i.isLt
    fences := s.fu.fences.map fun f => { f with captured := f.captured.filter fun j => decide (j ≠ i) } } }

/-- R74: the response is matched to slot `i`: its tag is `8 i` plus the slot's incarnation, and its source is the
slot's target node. -/
abbrev State.Answers (r : Response) (i : SlotIndex) (s : State) : Prop :=
  s.fabric = .up ∧ s.fu.ort[i].occupied = true ∧ r.source = s.fu.ort[i].node ∧
  r.tag.toNat = 8 * i.val + s.fu.ort[i].incarnation.toNat

/-- R78: the request of a slot is refused, unless the slot is an orphan. -/
def State.ended (code : RefusalCode) (sl : Slot) (s : State) : State :=
  if sl.orphan = true then s else s.refused code sl.request

/-- R77, R79, R87: the POSTED_FAILED fault of a slot. -/
def postedFailed (sl : Slot) (code : Half) : FaultRec :=
  { sequence := 0, kind := .postedFailed, source := .port sl.port, stream := some sl.stream,
    domain := some sl.domain, address := some sl.address, ticket := none, tag := none, code := some code }

/-- R75 to R77: the UPSTREAM_PROTOCOL fault of a slot, met by a response with this tag. -/
def protocolFailed (sl : Slot) (tag : Byte) : FaultRec :=
  { sequence := 0, kind := .upstreamProtocol, source := .port sl.port, stream := some sl.stream,
    domain := none, address := none, ticket := none, tag := some tag, code := none }

/-! ### The miss unit, drains -/

/-- R90: the held list of a ticket, in arrival order. -/
def State.heldUnder (t : Half) (s : State) : List HeldReq := s.mu.held.filter fun h => decide (h.place = .held t)

/-- R103: the Replay Queue, first to last. -/
def State.replays (s : State) : List HeldReq := s.mu.held.filter fun h => decide (h.place = .replay)

/-- R91, R98: the record with this ticket and the requests held under it are gone. -/
def State.forgot (t : Half) (s : State) : State :=
  { s with mu := { s.mu with records := s.mu.records.filter fun m => decide (m.ticket ≠ t)
                             held := s.mu.held.filter fun h => decide (h.place ≠ .held t) } }

/-- R102: the requests held under this ticket are at the tail of the Replay Queue, and its record is gone. -/
def State.retried (t : Half) (s : State) : State :=
  { s with mu := { s.mu with
    records := s.mu.records.filter fun m => decide (m.ticket ≠ t)
    held := s.mu.held.filter (fun h => decide (h.place ≠ .held t)) ++
      (s.heldUnder t).map fun h => { h with place := .replay } } }

/-- R20, R102: the resolve part of an INSTALL: with the ticket of a live record, its requests move to the Replay Queue. -/
def State.resolved (ticket : Option Half) (s : State) : State :=
  match ticket with
  | none => s
  | some t => if ∃ m ∈ s.mu.records, m.ticket = t then s.retried t else s

/-- R20, R187: the resolve outcome: NONE 0, DONE 1, STALE 2. -/
def State.resolveOutcome (ticket : Option Half) (s : State) : Byte :=
  match ticket with
  | none => 0
  | some t => if ∃ m ∈ s.mu.records, m.ticket = t then 1 else 2

/-- R105, R106: the first request of the Replay Queue has left the Held Store, and RP is empty. -/
def State.replayGone (s : State) : State :=
  { s with mu := { s.mu with held := s.mu.held.eraseP fun h => decide (h.place = .replay), rp := none } }

/-- R156: the ORT, the five staging positions, the Held Store and the Miss List are empty. -/
abbrev State.Empty (s : State) : Prop :=
  (∀ i : SlotIndex, s.fu.ort[i].occupied = false) ∧ (∀ p : Port, s.ports[p].staging = none) ∧ s.mu.rp = none ∧
  s.mu.held = [] ∧ s.mu.records = []

/-- R135: the replay cache after a deferred reply: stored where the entry is PENDING and names it. -/
def storedIn (name : Answer) (status : ReplyStatus) (results : List Byte) : Option CacheEntry → Option CacheEntry
  | none => none
  | some e => some (if e.answer = name then { e with answer := .stored status results } else e)

/-- R125, R156, R157: the part is empty, and no fence record waits with an empty captured set for its reply (log entry
6). -/
abbrev State.Quiet (s : State) : Prop := s.Empty ∧ ∀ f ∈ s.fu.fences, f.captured ≠ []

/-- R82: the next step produces a tick: a TICK stands first, or the queue is empty, no event is due, and a cycle brings
the prescale count to the period's prescale. -/
abbrev State.TickPasses (s : State) : Prop :=
  s.phase = .running ∧
    ((∃ rest, s.pending = .tick :: rest) ∨
      (s.pending = [] ∧ s.due = [] ∧
        (match s.tb.period with | .us1 => 25 | .us8 => 200 | .us64 => 1600 | .us512 => 12800) ≤ s.tb.prescale + 1))

/-! ### What a RESET and a fabric link loss send -/

/-- 00, section 5, R47: what refusing a request sends: a REFUSED completion to a port that is UP, nothing for a POSTED
WRITE. -/
def State.refusal (code : RefusalCode) (r : Request) (s : State) : List Sent :=
  if r.kind ≠ .postedWrite ∧ s.ports[r.port].link = .up then [.client r.port (answerOf 0x2F code.byte [] r)] else []

/-- R78: what refusing the request of an occupied slot sends: nothing for an orphan. -/
def State.slotRefusal (code : RefusalCode) (i : SlotIndex) (s : State) : List Sent :=
  if s.fu.ort[i].occupied = true ∧ s.fu.ort[i].orphan = false then s.refusal code s.fu.ort[i].request else []

/-- R64, R65: what refusing the staged request of an UP port sends. -/
def State.stagedRefusal (code : RefusalCode) (p : Port) (s : State) : List Sent :=
  match s.ports[p].link, s.ports[p].staging with
  | .up, some q => s.refusal code q.req
  | _, _ => []

/-- R64: what an UP port sends for its queue at a RESET: a REFUSED RESET with the fields as received for every packet
that is no POSTED WRITE, head to tail, then one CREDIT for the slots emptied, if there are any. -/
def State.queueRefusals (p : Port) (s : State) : List Sent :=
  if s.ports[p].link = .up ∧ s.ports[p].queue ≠ [] then
    (s.ports[p].queue.filter fun pkt => decide (pkt.kind ≠ 0x13)).map (fun pkt =>
      .client p { kind := 0x2F, streamByte := pkt.streamByte, tag := pkt.tag, code := 0x0C, length := pkt.length,
                  address := pkt.address, payload := [] }) ++
    [.client p (creditOf (BitVec.ofNat 16 s.ports[p].queue.length))]
  else []

/-- R112, R113: what refusing every request of the miss unit sends: the Replay Queue, whose first is RP's, then the held
lists record by record. -/
def State.missRefusals (code : RefusalCode) (s : State) : List Sent :=
  (s.replays ++ s.mu.records.flatMap fun m => s.heldUnder m.ticket).flatMap fun h => s.refusal code h.req

/-- R122: the OK reply of a fence record. -/
def State.fenceReply (s : State) (f : FenceRec) : Sent :=
  s.replyTo f.node f.sequence (match f.command with | .invalidate => 0x33 | .fence => 0x34) .ok [BitVec.ofNat 8 f.count]

/-- R126: the fence records whose captured sets empty when slot `i` is freed, the slots below it being free. -/
def State.fencesEndingAt (i : SlotIndex) (s : State) : List FenceRec :=
  s.fu.fences.filter fun f => decide (i ∈ f.captured ∧ ∀ j ∈ f.captured, j ≤ i)

/-- R162 steps 2 to 5: all that a RESET sends before its own reply. Port by port, the staged request and the queue;
then (log entry 24) the replies of fences that are due already; slot by slot, the refusal and the replies of the fences
that end there; the miss unit; the pending QUIESCE, ABORTED. -/
def State.resetSends (s : State) : List Sent :=
  ((List.finRange 4).flatMap fun p => s.stagedRefusal .reset p ++ s.queueRefusals p) ++
  (s.fu.fences.filter fun f => decide (f.captured = [])).map s.fenceReply ++
  ((List.finRange 32).flatMap fun i => s.slotRefusal .reset i ++ (s.fencesEndingAt i).map s.fenceReply) ++
  s.missRefusals .reset ++
  match s.mc.quiesce with
  | none => []
  | some q => [s.replyTo q.node q.sequence 0x12 .aborted []]

/-- R167 steps 2 to 4: all that a fabric link loss sends: slot by slot, port by port, then the miss unit. -/
def State.lossSends (s : State) : List Sent :=
  ((List.finRange 32).flatMap fun i => s.slotRefusal .upstreamLost i) ++
  ((List.finRange 4).flatMap fun p => s.stagedRefusal .upstreamLost p) ++ s.missRefusals .upstreamLost

/-- R172 to R174: the Fault Log after one fault, no notice being sent: the fault takes the next sequence number; with 16
records it is dropped and counted, the count staying at 65535. -/
def FaultLog.after (log : FaultLog) (f : FaultRec) : FaultLog :=
  if log.records.length < 16 then
    { log with records := log.records ++ [{ f with sequence := log.sequence }], sequence := log.sequence + 1 }
  else
    { log with overflow := if log.overflow = 65535 then 65535 else log.overflow + 1, sequence := log.sequence + 1 }

/-! ### Frames -/

/-- R180, R181: a frame: a header behind its check, then a payload, if there is one, with the check it carries. -/
def frameOf (header : List Byte) (payload : Option Payload) : List Byte :=
  header ++ be16 (checkWord header) ++
    match payload with
    | none => []
    | some p => p.bytes ++ be16 p.check

/-- R181: a payload as a frame carries it, none for no bytes, with a good check. -/
def carried (bytes : List Byte) : Option Payload :=
  if bytes = [] then none else some { bytes := bytes, check := checkWord bytes }

end Sys2Proof.Machine
end

