-- ==== Sys2Proof/Certificates/Slice0/Obligations.lean ====
section
/-! DEFINITION. The statements for the provers, in the order of OBLIGATIONS.json. -/

open Sys2Proof Sys2Proof.Machine

/-! ### Power, pin reset and links (08, 03) -/

/-- POWER_ON clears every block to its power-on values, samples the strap and holds every link DOWN (R163 to R165; what
was sent and the queue of commands are the model's own, log entry 11; that it does so while RSTN is low too is the
model's choice, log entry 25). The traffic-lost flag is yes exactly when the
ORT, a staging position, an Ingress Queue or the Held Store is non-empty (R164). A pin reset takes the flag at its
assertion, sends nothing, keeps the tables, the Timebase and the Fault Log until its release (log entry 8), then clears
every block with cause PIN and that flag, as it does from every state with RSTN low. From every state that clears,
behind POWER_ON too, start-up ends with the part running, its prescale count at 0 and all else kept (R165, R166). That a
fence reply whose FENCE_COMPLETION still waits is lost at POWER_ON and at the assertion is the model's choice, log entry
26. -/
def Obligations.StartUpClears : Prop :=
  (∀ (strap : BitVec 4) (s : State),
     exec (.powerOn strap) s =
       .next { State.reset with strap := strap, phase := .clearing, sent := s.sent, pending := s.pending }) ∧
  (∀ (strap : BitVec 4) (s : State), (∀ lost, s.phase ≠ .inReset lost) →
     (s.trafficLost = true ↔
       (∃ i : SlotIndex, s.fu.ort[i].occupied = true) ∨ (∃ p : Port, s.ports[p].staging ≠ none) ∨ s.mu.rp ≠ none ∨
       (∃ p : Port, s.ports[p].queue ≠ []) ∨ s.mu.held ≠ []) ∧
     ∃ t u, exec .pinResetAssert s = .next t ∧ t.phase = .inReset s.trafficLost ∧
       (∀ p : Port, t.ports[p] = PortState.cleared) ∧ t.fabric = .down ∧
       (∀ i : SlotIndex, t.fu.ort[i] = { s.fu.ort[i] with occupied := false }) ∧ t.fu.fences = [] ∧
       t.mu = { s.mu with records := [], held := [], rp := none } ∧
       t.mc = { s.mc with admission := .closed, owner := none, cache := none, quiesce := none } ∧
       t.tu = s.tu ∧ t.du = s.du ∧ t.tb = s.tb ∧ t.fl = s.fl ∧ t.strap = s.strap ∧
       t.sent = s.sent ∧ t.pending = s.pending ∧ t.fu.pointer = s.fu.pointer ∧ t.fu.nextFence = s.fu.nextFence ∧
       exec (.pinResetRelease strap) t = .next u ∧
       u = { State.reset with
         strap := strap, phase := .clearing, mc := ManageCtl.cleared { kind := .pin, trafficLost := s.trafficLost }
         sent := s.sent, pending := s.pending } ∧
       exec .startupClearingDone u = .next { u with phase := .running }) ∧
  (∀ (strap : BitVec 4) (lost : Bool) (s : State), s.phase = .inReset lost →
     exec (.pinResetRelease strap) s = .next { State.reset with
       strap := strap, phase := .clearing, mc := ManageCtl.cleared { kind := .pin, trafficLost := lost }
       sent := s.sent, pending := s.pending }) ∧
  (∀ s : State, s.phase = .clearing →
     exec .startupClearingDone s = .next { s with phase := .running, tb := { s.tb with prescale := 0 } })

/-- While the part runs, a client link that comes UP sets the port's credits to 8 and sends one CREDIT granting 8; the
fabric link coming UP changes only its own state (R46, R168). -/
def Obligations.LinksComeUp : Prop :=
  ∀ s : State, s.phase = .running →
    (∀ p : Port, s.ports[p].link = .down →
      exec (.clientLinkUp p) s =
        .next { s with
          ports := s.ports.set p.val { s.ports[p] with link := .up, credits := 8 } p.isLt
          sent := s.sent ++ [.client p (creditOf 8)] }) ∧
    exec .fabricLinkUp s = .next { s with fabric := .up }

/-- A client link that goes DOWN takes with it the port's queue, staged request and credits, marks its ORT slots as
orphans, removes its requests from the Held Store and RP, and frees every miss record left without a held request;
nothing is sent or logged, and every other block stays (R47 to R49). That a drain which this makes
possible is a step of its own is the model's reading, log entry 6. -/
def Obligations.ClientLinkTeardown : Prop :=
  ∀ (p : Port) (s : State), s.ports[p].link = .up →
    ∃ t, exec (.clientLinkDown p) s = .next t ∧
      t.ports = s.ports.set p.val { link := .down, queue := [], credits := 0, staging := none } p.isLt ∧
      (∀ i : SlotIndex, t.fu.ort[i] =
        if s.fu.ort[i].occupied = true ∧ s.fu.ort[i].port = p then { s.fu.ort[i] with orphan := true }
        else s.fu.ort[i]) ∧
      t.mu.held = s.mu.held.filter (fun h => h.req.port ≠ p) ∧
      (∀ m, m ∈ t.mu.records ↔
        m ∈ s.mu.records ∧ ∃ h ∈ s.mu.held, h.req.port ≠ p ∧ h.place = .held m.ticket) ∧
      t.mu.records.Sublist s.mu.records ∧
      (∀ q, t.mu.rp = some q ↔ s.mu.rp = some q ∧ q.req.port ≠ p) ∧ t.mu.ticket = s.mu.ticket ∧
      t.fu.fences = s.fu.fences ∧ t.fu.pointer = s.fu.pointer ∧ t.fu.nextFence = s.fu.nextFence ∧
      t.tu = s.tu ∧ t.du = s.du ∧ t.mc = s.mc ∧ t.tb = s.tb ∧ t.fl = s.fl ∧ t.fabric = s.fabric ∧
      t.strap = s.strap ∧ t.phase = s.phase ∧ t.sent = s.sent ∧ t.pending = s.pending

/-- Fabric link loss closes admission, clears the owner and the replay cache, drops the pending QUIESCE and the Fence
List without a reply, frees every ORT slot with its incarnation kept, empties the staging positions of the UP ports
and the miss unit. What leaves is exactly one REFUSED UPSTREAM_LOST to its UP port for each non-posted request: of the
ORT in slot order, orphans apart, then of the staging positions of the UP ports, then of the miss unit, Replay Queue
first. The Fault Log takes one POSTED_FAILED with code 0x0101 for each posted request in the ORT, in slot order, and no
notice leaves. Queues, credits, tables, counters, the Timebase and the cause record stay (R65, R87, R113, R128, R151,
R167, R171). That the staging positions, on four links, are told in the order CP0 to CP3 is the model's choice, log entry
16, and so is that the reply of an emptied fence record, its FENCE_COMPLETION still waiting, is discarded with the
others, log entry 26. -/
def Obligations.FabricLinkLossTeardown : Prop :=
  ∀ s : State, s.fabric = .up →
    ∃ t, exec .fabricLinkLoss s = .next t ∧ t.fabric = .down ∧
      t.mc = { s.mc with admission := .closed, owner := none, cache := none, quiesce := none } ∧
      t.fu.fences = [] ∧ (∀ i : SlotIndex, t.fu.ort[i] = { s.fu.ort[i] with occupied := false }) ∧
      t.fu.pointer = s.fu.pointer ∧ t.fu.nextFence = s.fu.nextFence ∧
      (∀ p : Port, t.ports[p] =
        if s.ports[p].link = .up then { s.ports[p] with staging := none } else s.ports[p]) ∧
      t.mu = { s.mu with records := [], held := [], rp := none } ∧
      t.sent = s.sent ++ s.lossSends ∧
      t.fl = ((s.occupiedSlots.filter fun i => s.fu.ort[i].kind = .postedWrite).map fun i =>
        postedFailed s.fu.ort[i] 0x0101).foldl FaultLog.after s.fl ∧
      t.tu = s.tu ∧ t.du = s.du ∧ t.tb = s.tb ∧ t.strap = s.strap ∧ t.phase = s.phase ∧ t.pending = s.pending

/-! ### Client ports (03) -/

/-- A frame that arrives on an UP port with no credit is dropped with an OVERRUN record and changes nothing else. With a
credit, a frame whose header check differs from the check word of its first ten bytes is dropped, its credit is
returned in a CREDIT granting 1, and a CHECK_ERROR record is made; one whose header check is good, with no payload or
with 1 to 256 payload bytes and any payload check, uses the credit and joins the tail of the queue whole. A frame that
is neither 12 nor 15 to 270 bytes long is handled as one with a bad header check (R50 to R52, R181). That the CREDIT
stands before the record's notice in what was sent is the model's choice between two links, log entry 16. -/
def Obligations.ArrivalUsesCredit : Prop :=
  ∀ (p : Port) (s : State) (k sb tag code l1 l0 a3 a2 a1 a0 : Byte) (check payloadCheck : Half) (bytes : List Byte),
    s.ports[p].link = .up → bytes.length ≤ 256 →
    let header := [k, sb, tag, code, l1, l0, a3, a2, a1, a0]
    let payload := if bytes = [] then [] else bytes ++ be16 payloadCheck
    let frame := header ++ be16 check ++ payload
    (s.ports[p].credits = 0 →
      ∀ anyFrame, exec (.clientPacketArrival p anyFrame) s = .next (logFault (bareFault .overrun (.port p)) s)) ∧
    let refused : State :=
      logFault (bareFault .checkError (.port p)) { s with sent := s.sent ++ [.client p (creditOf 1)] }
    (1 ≤ s.ports[p].credits → check ≠ checkWord header → exec (.clientPacketArrival p frame) s = .next refused) ∧
    (1 ≤ s.ports[p].credits → ∀ other : List Byte,
      other.length ≠ 12 → other.length < 15 ∨ 270 < other.length →
      exec (.clientPacketArrival p other) s = .next refused) ∧
    (1 ≤ s.ports[p].credits → check = checkWord header →
      exec (.clientPacketArrival p frame) s =
        .next (s.updPort p fun c => { c with
          credits := c.credits - 1
          queue := c.queue ++
            [{ kind := k, streamByte := sb, tag := tag, code := code, length := l1 ++ l0,
               address := a3 ++ a2 ++ a1 ++ a0,
               payload := if bytes = [] then none else some { bytes := bytes, check := payloadCheck } }] }))

/-- A head is MALFORMED exactly under the conditions of R54, which are examined together; a head that passes carries the
packet's fields, and no bytes where the packet has no payload, as a READ never has (R54, R58). -/
def Obligations.MalformedExactly : Prop :=
  ∀ (p : Port) (pkt : RxPacket),
    (pkt.request p = none ↔
      (pkt.kind ≠ 0x11 ∧ pkt.kind ≠ 0x12 ∧ pkt.kind ≠ 0x13) ∨ 16 ≤ pkt.streamByte.toNat ∨
      pkt.length = 0 ∨ 256 < pkt.length.toNat ∨ 4096 < pkt.address.toNat % 4096 + pkt.length.toNat ∨
      (pkt.kind = 0x11 ∧ pkt.payload ≠ none) ∨
      (pkt.kind ≠ 0x11 ∧ ∀ pl, pkt.payload = some pl →
        pl.bytes.length ≠ pkt.length.toNat ∨ pl.check ≠ checkWord pl.bytes)) ∧
    ∀ r, pkt.request p = some r →
      r.port = p ∧ r.stream.val = pkt.streamByte.toNat ∧ r.tag = pkt.tag ∧ r.address = pkt.address ∧
      r.length = pkt.length ∧ (r.kind = .read ↔ pkt.kind = 0x11) ∧ (r.kind = .write ↔ pkt.kind = 0x12) ∧
      (r.kind = .postedWrite ↔ pkt.kind = 0x13) ∧ (∀ pl, pkt.payload = some pl → r.payload = pl.bytes) ∧
      (pkt.payload = none → r.payload = [])

/-- A MALFORMED head leaves its queue and returns its credit. Unless it is a POSTED WRITE it is refused with its stream
byte, tag, length and address as received; a POSTED WRITE is dropped, with a CHECK_ERROR record of its port where it
carries a payload whose check is not good (R53, R54). That the record's notice stands before the CREDIT in what was
sent is the model's choice between two links, log entry 16. -/
def Obligations.MalformedHead : Prop :=
  ∀ (p : Port) (pkt : RxPacket) (rest : List RxPacket) (s : State), s.HeadAt p pkt rest → pkt.request p = none →
    (pkt.kind ≠ 0x13 →
      exec (.headProcessing p) s = .next ((s.told p
        { kind := 0x2F, streamByte := pkt.streamByte, tag := pkt.tag, code := 0x0B, length := pkt.length,
          address := pkt.address, payload := [] }).headLeft p rest)) ∧
    (pkt.kind = 0x13 → (∀ pl, pkt.payload = some pl → pl.check = checkWord pl.bytes) →
      exec (.headProcessing p) s = .next (s.headLeft p rest)) ∧
    (pkt.kind = 0x13 → (∃ pl, pkt.payload = some pl ∧ pl.check ≠ checkWord pl.bytes) →
      exec (.headProcessing p) s = .next ((logFault (bareFault .checkError (.port p)) s).headLeft p rest))

/-- A well-formed head is refused NOT_READY in CLOSED, BUSY in DRAINING and QUIESCED, NOT_BOUND where its stream is
UNBOUND, BUSY in a PAUSED domain and DENIED in a BARRED one. Its completion is sent before its credit returns, a POSTED
WRITE receives none, and nothing else changes but for the REFUSAL record of a reporting domain (R42, R53, R55, R56).
That the record's notice stands between the completion and the CREDIT in what was sent is the model's choice between two
links, log entry 16. -/
def Obligations.HeadRefusals : Prop :=
  ∀ (p : Port) (pkt : RxPacket) (rest : List RxPacket) (r : Request) (s : State),
    s.HeadAt p pkt rest → pkt.request p = some r →
    (s.mc.admission = .closed →
      exec (.headProcessing p) s = .next ((s.refused .notReady r).headLeft p rest)) ∧
    (s.mc.admission = .draining ∨ s.mc.admission = .quiesced →
      exec (.headProcessing p) s = .next ((s.refused .busy r).headLeft p rest)) ∧
    (s.mc.admission = .opened →
      (s.du.streams[p][r.stream] = none →
        exec (.headProcessing p) s = .next ((s.refused .notBound r).headLeft p rest)) ∧
      ∀ d, s.du.streams[p][r.stream] = some d →
        (s.du.domains[d].state = .paused →
          exec (.headProcessing p) s = .next ((s.refused .busy r).headLeft p rest)) ∧
        (s.du.domains[d].state = .barred →
          exec (.headProcessing p) s =
            .next (((s.refused .denied r).reported .denied d r).headLeft p rest)))

/-- In OPEN, a head of an ACTIVE domain whose address an entry matches is staged with that entry's node, fabric address
and index, not stale, the entry's hit flag being set, where entry and ceiling give what its kind needs; otherwise it
is refused ACCESS. By the overlap law one entry at most matches (R4 to R7, R13, R57, R58). That a REFUSAL record's notice
stands between the completion and the CREDIT in what was sent is the model's choice between two links, log entry 16. -/
def Obligations.HeadLookup : Prop :=
  ∀ (p : Port) (pkt : RxPacket) (rest : List RxPacket) (r : Request) (d : Domain) (i : EntryIndex) (s : State),
    s.HeadAt p pkt rest → pkt.request p = some r → s.mc.admission = .opened →
    s.du.streams[p][r.stream] = some d → s.du.domains[d].state = .active → s.OverlapLaw →
    s.tu.entries[i].matchesAt d r.address = true →
    (Permits r.kind s.tu.entries[i].perms s.du.domains[d].ceiling →
      exec (.headProcessing p) s =
        .next (((s.hitOn i).stagedIn p (s.stagedBy r d i)).headLeft p rest)) ∧
    (¬ Permits r.kind s.tu.entries[i].perms s.du.domains[d].ceiling →
      exec (.headProcessing p) s =
        .next (((s.refused .access r).reported .access d r).headLeft p rest))

/-! ### Misses (05) -/

/-- A head that misses is decided by the steps of R93. Under FAIL or without an owner it is refused NO_MAP. With a live
record of its domain and page it joins that record or, the Held Store being full, is refused BUSY. Without one it is
refused BUSY where the Miss List holds 16 records, the domain is at its quota, or the Held Store is full; otherwise a
record is created under the first ticket, from the ticket counter up, that no live record holds, and its MISS notice
goes to the owner (R57, R92 to R96). That a notice, of a miss or of a REFUSAL record, stands before the CREDIT in what was
sent is the model's choice between two links, log entry 16. -/
def Obligations.HeadMiss : Prop :=
  ∀ (p : Port) (pkt : RxPacket) (rest : List RxPacket) (r : Request) (d : Domain) (s : State),
    s.HeadAt p pkt rest → pkt.request p = some r → s.mc.admission = .opened →
    s.du.streams[p][r.stream] = some d → s.du.domains[d].state = .active → s.Misses d r.address →
    let page : BitVec 20 := r.address.extractLsb' 12 20
    let full := 16 ≤ s.mu.records.length ∨
      s.du.domains[d].quota.toNat ≤ (s.mu.records.filter fun m => m.domain = d).length ∨ 32 ≤ s.mu.held.length
    (s.du.domains[d].policy = .fail ∨ s.mc.owner = none →
      exec (.headProcessing p) s = .next (((s.refused .noMap r).reported .noMap d r).headLeft p rest)) ∧
    ∀ o, s.du.domains[d].policy = .hold → s.mc.owner = some o →
      (∀ m ∈ s.mu.records, m.domain = d → m.page = page → s.RecordLaw →
        (s.mu.held.length < 32 →
          exec (.headProcessing p) s = .next ((s.joined r d m.ticket).headLeft p rest)) ∧
        (32 ≤ s.mu.held.length → exec (.headProcessing p) s = .next ((s.refused .busy r).headLeft p rest))) ∧
      ((∀ m ∈ s.mu.records, m.domain = d → m.page ≠ page) →
        (full → exec (.headProcessing p) s = .next ((s.refused .busy r).headLeft p rest)) ∧
        (¬ full → s.fabric = .up →
          ∃ (n : Nat) (t : Half), t = s.mu.ticket + BitVec.ofNat 16 n ∧ (∀ m ∈ s.mu.records, m.ticket ≠ t) ∧
            (∀ k < n, ∃ m ∈ s.mu.records, m.ticket = s.mu.ticket + BitVec.ofNat 16 k) ∧
            exec (.headProcessing p) s = .next ((s.created r d t o).headLeft p rest)))

/-- A stale request staged at a port goes through binding, domain state and lookup again: it is staged afresh under its
stream's domain, or its staging position empties and it is refused as a head would be or handed over as a fresh miss.
In no case does a credit return or a CREDIT leave (R59). Two clauses hold the model's choices: that the completion stands
before a REFUSAL record's notice in what was sent, two links apart, log entry 16; and that admission stays DRAINING when
this step empties the part, its drain being a step of its own, log entry 6. -/
def Obligations.PortRelookup : Prop :=
  ∀ (p : Port) (q : Staged) (s : State), s.ports[p].staging = some q → q.stale = true →
    (s.du.streams[p][q.req.stream] = none →
      exec (.portStaleRelookup p) s = .next ((s.unstaged p).refused .notBound q.req)) ∧
    ∀ d, s.du.streams[p][q.req.stream] = some d →
      (s.du.domains[d].state = .paused →
        exec (.portStaleRelookup p) s = .next ((s.unstaged p).refused .busy q.req)) ∧
      (s.du.domains[d].state = .barred →
        exec (.portStaleRelookup p) s =
          .next (((s.unstaged p).refused .denied q.req).reported .denied d q.req)) ∧
      (s.du.domains[d].state = .active → s.OverlapLaw →
        (∀ i, s.tu.entries[i].matchesAt d q.req.address = true →
          (Permits q.req.kind s.tu.entries[i].perms s.du.domains[d].ceiling →
            exec (.portStaleRelookup p) s = .next ((s.hitOn i).stagedIn p (s.stagedBy q.req d i))) ∧
          (¬ Permits q.req.kind s.tu.entries[i].perms s.du.domains[d].ceiling →
            exec (.portStaleRelookup p) s =
              .next (((s.unstaged p).refused .access q.req).reported .access d q.req))) ∧
        (s.Misses d q.req.address →
          exec (.portStaleRelookup p) s = .next (takeMiss q.req d (s.unstaged p)) ∧
          (takeMiss q.req d (s.unstaged p)).ports = (s.unstaged p).ports))

/-! ### Forwarding (04) -/

/-- With the fabric link UP and a slot free, the requester that holds a grantable request and comes first in the rotation
after the pointer is granted the lowest-numbered free slot. The slot takes the next incarnation, the request's fields
and the upstream timeout; the pointer moves to the winner, its staging position empties (RP's request leaving the Held
Store), and the request leaves upstream under the tag of slot and incarnation. Nothing else changes. With no grantable
request, no free slot, or the link DOWN, nothing changes (R67 to R69, R71, R72, R106). -/
def Obligations.GrantInRotation : Prop :=
  ∀ s : State,
    (∀ (w : Requester) (q : Staged) (i : SlotIndex), s.fabric = .up → s.Ready w q →
      (∀ w' q', s.Ready w' q' → Requester.after s.fu.pointer w ≤ Requester.after s.fu.pointer w') →
      s.fu.ort[i].occupied = false → (∀ j < i, s.fu.ort[j].occupied = true) →
      let incarnation := s.fu.ort[i].incarnation + 1
      let t : State := { s with
        fu := { s.fu with
          pointer := w
          ort := s.fu.ort.set i.val
            { occupied := true, incarnation := incarnation, kind := q.req.kind, port := q.req.port,
              stream := q.req.stream, tag := q.req.tag, address := q.req.address, domain := q.domain, node := q.node,
              length := q.req.length, orphan := false, timer := s.tb.upstreamTimeout } i.isLt }
        sent := s.sent ++ [.fabric
          { kind := match q.req.kind with | .read => 0x41 | .write => 0x42 | .postedWrite => 0x43
            status := 0, source := s.ownNode, destination := q.node,
            tag := BitVec.ofNat 8 (8 * i.val + incarnation.toNat), sequence := 0, length := q.req.length,
            address := q.fabricAddress.setWidth 48, payload := q.req.payload }] }
      exec .grant s = .next (match w with | .cp p => t.unstaged p | .rp => t.replayGone)) ∧
    ((∀ w q, ¬ s.Ready w q) ∨ (∀ i : SlotIndex, s.fu.ort[i].occupied = true) ∨ s.fabric = .down →
      exec .grant s = .next s)

/-- A matched response that fits its slot's kind ends the slot's request and frees the slot. A good READ DATA of the
slot's length goes to the client; one whose payload check fails is refused UPSTREAM_ERROR with a CHECK_ERROR record; a
WRITE ACK ends a WRITE with WRITE DONE and a POSTED WRITE with nothing; a FABRIC ERROR refuses a READ or WRITE
UPSTREAM_ERROR and logs POSTED_FAILED with its status for a POSTED WRITE. Nothing is sent for an orphan slot, whose
faults are logged all the same (R74 to R78, R81). That the freeing itself sends no reply for a fence whose captured set
it empties, and ends no drain, is the model's reading, log entries 5 and 6: each such reply is a step of its own that
follows. That a completion stands before a record's notice in what was sent is the model's choice between two links,
log entry 16. -/
def Obligations.ResponseEndsRequest : Prop :=
  ∀ (r : Response) (i : SlotIndex) (s : State), s.Answers r i → r.address.toNat < 2 ^ 44 →
    let sl := s.fu.ort[i]
    let answered (k : ClientPacket) : State := if sl.orphan = true then s else s.told sl.port k
    (∀ pl, sl.kind = .read → r.payload = some pl → pl.bytes.length = sl.length.toNat →
      (pl.check = checkWord pl.bytes →
        exec (.readData r) s = .next ((answered (answerOf 0x21 0 pl.bytes sl.request)).freed i)) ∧
      (pl.check ≠ checkWord pl.bytes →
        exec (.readData r) s =
          .next ((logFault (bareFault .checkError .fabric) (s.ended .upstreamError sl)).freed i))) ∧
    (sl.kind = .write →
      exec (.writeAck r) s = .next ((answered (answerOf 0x22 0 [] sl.request)).freed i)) ∧
    (sl.kind = .postedWrite → exec (.writeAck r) s = .next (s.freed i)) ∧
    (sl.kind ≠ .postedWrite → exec (.fabricError r) s = .next ((s.ended .upstreamError sl).freed i)) ∧
    (sl.kind = .postedWrite →
      exec (.fabricError r) s = .next ((logFault (postedFailed sl (r.status.setWidth 16)) s).freed i))

/-- A matched response that breaks the protocol logs UPSTREAM_PROTOCOL with its tag and the slot's port and stream,
refuses a READ or WRITE UPSTREAM_ERROR unless the slot is an orphan, and frees the slot: any response with a set bit
among the top four of its address field, a READ DATA for a WRITE or POSTED WRITE slot, one without a payload or of
another length for a READ slot, and a WRITE ACK for a READ slot (R75 to R78, R186). That the freeing itself sends no
reply for a fence whose captured set it empties, and ends no drain, is the model's reading, log entries 5 and 6: each
such reply is a step of its own that follows. That the completion stands before the record's notice in what was sent is
the model's choice between two links, log entry 16. -/
def Obligations.ResponseBreaksProtocol : Prop :=
  ∀ (r : Response) (i : SlotIndex) (s : State), s.Answers r i →
    let sl := s.fu.ort[i]
    let t := (logFault (protocolFailed sl r.tag) (s.ended .upstreamError sl)).freed i
    (2 ^ 44 ≤ r.address.toNat →
      exec (.readData r) s = .next t ∧ exec (.writeAck r) s = .next t ∧ exec (.fabricError r) s = .next t) ∧
    (sl.kind ≠ .read → exec (.readData r) s = .next t) ∧
    (sl.kind = .read → (∀ pl, r.payload = some pl → pl.bytes.length ≠ sl.length.toNat) →
      exec (.readData r) s = .next t) ∧
    (sl.kind = .read → exec (.writeAck r) s = .next t)

/-- A response that no occupied slot of its tag's incarnation and target node answers to is stray: it is logged with its
tag and source node, and no slot, timer, fence or client sees it. A frame of a wrong length or with a bad header check
is dropped with a CHECK_ERROR record of source FABRIC, and a packet for another node without a record (R73, R74,
R181). -/
def Obligations.StraysAndDrops : Prop :=
  (∀ (r : Response) (s : State), s.fabric = .up → (∀ i, ¬ s.Answers r i) →
     ∃ t, t = logFault { bareFault .strayResponse .fabric with tag := some r.tag, code := some (r.source.setWidth 16) } s ∧
       exec (.readData r) s = .next t ∧ exec (.writeAck r) s = .next t ∧ exec (.fabricError r) s = .next t ∧
       t.fu = s.fu ∧ t.mu = s.mu ∧ t.ports = s.ports ∧
       ∀ x ∈ t.sent, x ∈ s.sent ∨ ∃ k, x = .fabric k ∧ k.kind = 0x62) ∧
  (∀ (frame : List Byte) (destination : Byte) (s : State), s.fabric = .up →
     exec (.fabricBadFrame frame) s = .next (logFault (bareFault .checkError .fabric) s) ∧
     exec (.foreignPacket destination) s = .next s)

/-! ### The Fault Log (09) -/

/-- A packet for the part that is neither a response nor a COMMAND makes an UNSOLICITED fault of its source node, which
takes the next fault sequence number. With 16 records it is dropped and counted, the count staying at 65535; with
fewer it joins the tail, and a FAULT notice leaves to the owner, if there is one, where the log was empty (R145 to
R147, R172, R173, R175, R176). -/
def Obligations.FaultIsLogged : Prop :=
  ∀ (source kind : Byte) (s : State), s.fabric = .up →
    let record : FaultRec :=
      { sequence := s.fl.sequence, kind := .unsolicited, source := .fabric, stream := none, domain := none,
        address := none, ticket := none, tag := none, code := some (source.setWidth 16) }
    let appended : State :=
      { s with fl := { s.fl with records := s.fl.records ++ [record], sequence := s.fl.sequence + 1 } }
    (16 ≤ s.fl.records.length →
      exec (.unsolicitedPacket source kind) s =
        .next { s with fl := { s.fl with overflow := if s.fl.overflow = 65535 then 65535 else s.fl.overflow + 1
                                         sequence := s.fl.sequence + 1 } }) ∧
    (s.fl.records.length < 16 → s.fl.records ≠ [] ∨ s.mc.owner = none →
      exec (.unsolicitedPacket source kind) s = .next appended) ∧
    (∀ o, s.fl.records = [] → s.mc.owner = some o →
      exec (.unsolicitedPacket source kind) s =
        .next { appended with
          mc := { s.mc with noticeSeq := s.mc.noticeSeq + 1 }
          sent := s.sent ++ [.fabric
            { kind := 0x62, status := 0, source := s.ownNode, destination := o, tag := 0, sequence := s.mc.noticeSeq,
              length := 5, address := 0, payload := [2] ++ be16 s.fl.sequence ++ [8, 4] }] })

/-! ### Time (04) -/

/-- A tick lowers the timer of every occupied slot and of every live miss record by one, returns the prescale count to 0,
and changes nothing else (R82, R83). A timer expires at the tick that brings it to zero (R83), so before the time of the
next TICK passes, the events that timers at zero call for are taken first, each with the effect it has by itself: fence
replies, the end of a drain, upstream expiries and miss expiries, in the model's order, log entry 21. -/
def Obligations.TickLowersTimers : Prop :=
  ∀ s : State, s.phase = .running →
    (∀ (event : Instr) (rest : List Instr) (u : State), s.timed = event :: rest → exec event s = .next u →
      exec .tick s = exec .tick u) ∧
    (s.timed = [] → ∃ t, exec .tick s = .next t ∧
      (∀ i : SlotIndex, t.fu.ort[i] =
        if s.fu.ort[i].occupied = true then
          { s.fu.ort[i] with timer := BitVec.ofNat 8 (s.fu.ort[i].timer.toNat - 1) }
        else s.fu.ort[i]) ∧
      t.fu.pointer = s.fu.pointer ∧ t.fu.fences = s.fu.fences ∧ t.fu.nextFence = s.fu.nextFence ∧
      t.mu = { s.mu with
        records := s.mu.records.map fun m => { m with timer := BitVec.ofNat 8 (m.timer.toNat - 1) } } ∧
      t.tb = { s.tb with prescale := 0 } ∧ t.ports = s.ports ∧ t.fabric = s.fabric ∧ t.strap = s.strap ∧
      t.tu = s.tu ∧ t.du = s.du ∧ t.mc = s.mc ∧ t.fl = s.fl ∧ t.phase = s.phase ∧ t.sent = s.sent ∧
      t.pending = s.pending)

/-- The model's choice of log entry 2: on an empty queue the part takes the first event that is due, as the command of
that event would run; with none due a step is one reference clock cycle. It raises the prescale count by one, and where
the count reaches 25, 200, 1600 or 12800 by the tick period it is a tick (R82). -/
def Obligations.IdleStepCountsCycles : Prop :=
  ∀ s : State, s.pending = [] →
    (∀ (event : Instr) (rest : List Instr), s.due = event :: rest → step s = exec event s) ∧
    (s.due = [] → s.phase = .running →
      let prescale := match s.tb.period with | .us1 => 25 | .us8 => 200 | .us64 => 1600 | .us512 => 12800
      (s.tb.prescale + 1 < prescale → step s = .next { s with tb := { s.tb with prescale := s.tb.prescale + 1 } }) ∧
      (prescale ≤ s.tb.prescale + 1 → step s = exec .tick s))

/-- The upstream timer of an occupied slot, at zero, expires: a READ or WRITE is refused UPSTREAM_TIMEOUT unless the slot
is an orphan, a POSTED WRITE logs POSTED_FAILED with code 0x0100, and the slot is freed with its incarnation kept. The
miss timer of a live record, at zero, expires: the requests of its held list are refused MISS_TIMEOUT in order,
MISS_EXPIRED is logged with the ticket, the domain, the page's first address and the first requester's port, and the
record and its requests leave the miss unit (R78, R79, R81, R98, R171). That the freeing itself sends no reply for a fence
whose captured set it empties, and that neither expiry ends a drain, is the model's reading, log entries 5 and 6: each
such reply is a step of its own that follows. -/
def Obligations.TimersExpire : Prop :=
  (∀ (i : SlotIndex) (s : State), s.fu.ort[i].occupied = true → s.fu.ort[i].timer = 0 →
     let sl := s.fu.ort[i]
     (sl.kind ≠ .postedWrite →
       exec (.upstreamTimerExpiry i) s = .next ((s.ended .upstreamTimeout sl).freed i)) ∧
     (sl.kind = .postedWrite →
       exec (.upstreamTimerExpiry i) s = .next ((logFault (postedFailed sl 0x0100) s).freed i))) ∧
  (∀ (m : MissRec) (s : State), m ∈ s.mu.records → s.RecordLaw → m.timer = 0 →
     exec (.missTimerExpiry m.ticket) s =
       .next ((logFault
         { sequence := 0, kind := .missExpired, source := .port m.firstPort, stream := none, domain := some m.domain,
           address := some (m.page ++ 0#12), ticket := some m.ticket, tag := none, code := none }
         ((s.heldUnder m.ticket).foldl (fun s h => s.refused .missTimeout h.req) s)).forgot m.ticket))

/-! ### Replay (05) -/

/-- The first request of the Replay Queue, with RP empty, and a stale request at RP go through domain state and lookup
under the request's own domain. A hit with the permissions needed stages it at RP, not stale; otherwise it is refused
BUSY, DENIED, ACCESS or NO_MAP, never BUSY for want of room nor held again, and it leaves the Replay Queue with RP
empty. Admission and miss policy are not read, and no CREDIT leaves (R105, R107). Three points are the model's: that RP's own
record of request and domain stands for the Held Store slot's, log entry 22; that the completion stands before a REFUSAL
record's notice in what was sent, two links apart, log entry 16; and that a drain which this step makes possible is a
step of its own, log entry 6. -/
def Obligations.ReplayIsJudged : Prop :=
  ∀ (event : Instr) (r : Request) (d : Domain) (s : State),
    (event = .replayProcessing ∧ s.mu.rp = none ∧
        ∃ h rest, s.replays = h :: rest ∧ h.req = r ∧ h.domain = d) ∨
      (event = .rpStaleRelookup ∧ ∃ q, s.mu.rp = some q ∧ q.stale = true ∧ q.req = r ∧ q.domain = d) →
    (s.du.domains[d].state = .paused → exec event s = .next (s.refused .busy r).replayGone) ∧
    (s.du.domains[d].state = .barred →
      exec event s = .next ((s.refused .denied r).reported .denied d r).replayGone) ∧
    (s.du.domains[d].state = .active →
      (s.Misses d r.address → exec event s = .next ((s.refused .noMap r).reported .noMap d r).replayGone) ∧
      ∀ i, s.OverlapLaw → s.tu.entries[i].matchesAt d r.address = true →
        (Permits r.kind s.tu.entries[i].perms s.du.domains[d].ceiling →
          exec event s =
            .next { s.hitOn i with mu := { s.mu with rp := some (s.stagedBy r d i) } }) ∧
        (¬ Permits r.kind s.tu.entries[i].perms s.du.domains[d].ceiling →
          exec event s = .next ((s.refused .access r).reported .access d r).replayGone))

/-! ### Deferred replies (06, 08) -/

/-- The oldest fence record whose captured set has emptied leaves the Fence List and is replied to its node under its own
sequence: its command's code, status OK, its count. While admission is DRAINING, a part found drained with no fence
reply left to send becomes QUIESCED: the pending QUIESCE is removed and answered OK to its node under its sequence. Each
reply is stored in the replay cache only where the entry is PENDING and names it; with no record due, or a part that is
not drained, nothing changes (R122, R135, R156, R157; log entries 5 and 6: each completion is a step of its own). -/
def Obligations.DeferredRepliesComplete : Prop :=
  (∀ s : State, s.fabric = .up →
     (∀ (before after : List FenceRec) (f : FenceRec), s.fu.fences = before ++ f :: after →
       (∀ g ∈ before, g.captured ≠ []) → f.captured = [] →
       exec .fenceCompletion s = .next { s with
         fu := { s.fu with fences := before ++ after }
         mc := { s.mc with cache := storedIn (.pendingFence f.id) .ok [BitVec.ofNat 8 f.count] s.mc.cache }
         sent := s.sent ++ [s.replyTo f.node f.sequence (match f.command with | .invalidate => 0x33 | .fence => 0x34)
           .ok [BitVec.ofNat 8 f.count]] }) ∧
     ((∀ f ∈ s.fu.fences, f.captured ≠ []) → exec .fenceCompletion s = .next s)) ∧
  (∀ (q : PendingQuiesce) (s : State), s.fabric = .up → s.mc.admission = .draining → s.mc.quiesce = some q →
     (∀ f ∈ s.fu.fences, f.captured ≠ []) →
     (s.Empty →
       exec .drainCompletion s = .next { s with
         mc := { s.mc with admission := .quiesced, quiesce := none
                           cache := storedIn .pendingQuiesce .ok [] s.mc.cache }
         sent := s.sent ++ [s.replyTo q.node q.sequence 0x12 .ok []] }) ∧
     (¬ s.Empty → exec .drainCompletion s = .next s))
/-! ### COMMAND packets: the steps before execution (07) -/

/-- A COMMAND of any row whose payload check fails is dropped with a CHECK_ERROR record, whatever its source; one whose
check is good and whose source is the part's own node is dropped with an UNSOLICITED record; a command other than CLAIM
and STATUS from a node that is not the owner is answered NOT_OWNER, nothing else changing, the replay cache included
(R131, R132, R140, R147). -/
def Obligations.CommandTurnedAway : Prop :=
  (∀ (code : Byte) (row : Command → Instr) (c : Command) (s : State), (code, row) ∈ commandRows → s.fabric = .up →
     (c.check ≠ checkWord (code :: c.params) →
       exec (row c) s = .next (logFault (bareFault .checkError .fabric) s)) ∧
     (c.check = checkWord (code :: c.params) → c.source = s.ownNode →
       exec (row c) s =
         .next (logFault { bareFault .unsolicited .fabric with code := some (c.source.setWidth 16) } s))) ∧
  (∀ (code : Byte) (row : Command → Instr) (c : Command) (s : State), (code, row) ∈ ownerRows →
     Intact code c s → Fresh c s → s.mc.owner ≠ some c.source →
     exec (row c) s = .next (s.replied code c .notOwner []))

/-- A COMMAND of any row with the cached node and sequence is not carried out, whatever its code: the cached answer
leaves again, PENDING without results where the reply is still deferred, and nothing else changes (R133). -/
def Obligations.RepeatIsAnsweredFromCache : Prop :=
  ∀ (code : Byte) (row : Command → Instr) (c : Command) (e : CacheEntry) (s : State), (code, row) ∈ commandRows →
    Intact code c s → s.mc.cache = some e → e.source = c.source → e.sequence = c.sequence →
    exec (row c) s = .next (match e.answer with
      | .stored status results => s.replied e.code c status results
      | .pendingFence _ => s.replied e.code c .pending []
      | .pendingQuiesce => s.replied e.code c .pending [])

/-- An owner command whose parameters are shorter or longer than the width of its code is answered BAD_PARAM; the reply
is entered in the cache, and every block stays as it was. CLAIM and STATUS carry no parameters: with any, they too get
BAD_PARAM from the owner, entered in the cache, and from any other node, with or without an owner, not entered; no node
becomes the owner by such a CLAIM (R134, R188). -/
def Obligations.WrongWidth : Prop :=
  (∀ (code : Byte) (row : Command → Instr) (width : Nat) (c : Command) (s : State), (code, row) ∈ ownerRows →
    (code, width) ∈ paramWidth → FromOwner code c s → c.params.length ≠ width →
    exec (row c) s = .next (s.answered code c .badParam [])) ∧
  ∀ (code : Byte) (row : Command → Instr) (c : Command) (s : State),
    (code = 0x01 ∧ row = .claim ∨ code = 0x03 ∧ row = .status) → Intact code c s → Fresh c s → c.params ≠ [] →
    (s.mc.owner = some c.source → exec (row c) s = .next (s.answered code c .badParam [])) ∧
    (s.mc.owner ≠ some c.source → exec (row c) s = .next (s.replied code c .badParam []))

/-- A command that passes step 3 and whose code is not in the catalogue gets UNKNOWN, its code echoed and nothing carried
out, and is entered in the cache, so that its repeat is answered UNKNOWN from there; from a node that is not the owner it
gets NOT_OWNER; with a failed payload check it is dropped as any COMMAND is, and so is a COMMAND frame without a
payload; from the part's own node it is dropped with an UNSOLICITED record; and under the cached node and sequence,
whatever command is cached, the cached answer leaves again and nothing else changes (R131 to R134, R141, R147, R181). -/
def Obligations.UnknownCode : Prop :=
  ∀ (code : Byte) (c : Command) (s : State),
    let arrives := exec (.unknownCommand c.source c.sequence (code :: c.params) c.check) s
    (FromOwner code c s → arrives = .next (s.answered code c .unknown [])) ∧
    (FromOwner code c s →
      exec (.unknownCommand c.source c.sequence (code :: c.params) c.check) (s.answered code c .unknown []) =
        .next ((s.answered code c .unknown []).replied code c .unknown [])) ∧
    (Intact code c s → Fresh c s → s.mc.owner ≠ some c.source → arrives = .next (s.replied code c .notOwner [])) ∧
    (s.fabric = .up → c.check ≠ checkWord (code :: c.params) →
      arrives = .next (logFault (bareFault .checkError .fabric) s)) ∧
    (s.fabric = .up → exec (.unknownCommand c.source c.sequence [] c.check) s =
      .next (logFault (bareFault .checkError .fabric) s)) ∧
    (s.fabric = .up → c.check = checkWord (code :: c.params) → c.source = s.ownNode →
      arrives = .next (logFault { bareFault .unsolicited .fabric with code := some (c.source.setWidth 16) } s)) ∧
    ∀ e, Intact code c s → s.mc.cache = some e → e.source = c.source → e.sequence = c.sequence →
      arrives = .next (match e.answer with
        | .stored status results => s.replied e.code c status results
        | .pendingFence _ => s.replied e.code c .pending []
        | .pendingQuiesce => s.replied e.code c .pending [])

/-! ### Ownership and STATUS (07) -/

/-- CLAIM makes the sender of a part without owner the owner; the owner's own CLAIM changes nothing; both get OK with the
number the next notice will carry and are entered in the cache. With another owner it gets NOT_OWNER and is not
entered (R138). -/
def Obligations.ClaimDecides : Prop :=
  ∀ (c : Command) (s : State), Intact 0x01 c s → Fresh c s → c.params = [] →
    (s.mc.owner = none →
      exec (.claim c) s =
        .next (({ s with mc := { s.mc with owner := some c.source } } : State).answered 0x01 c .ok [s.mc.noticeSeq])) ∧
    (s.mc.owner = some c.source → exec (.claim c) s = .next (s.answered 0x01 c .ok [s.mc.noticeSeq])) ∧
    (∀ o, s.mc.owner = some o → o ≠ c.source → exec (.claim c) s = .next (s.replied 0x01 c .notOwner []))

/-- RELINQUISH is refused BUSY while a fence record or a QUIESCE is pending. Otherwise every live record is denied, in
Miss List order, each held request being refused DENIED and reported in held-list order; then admission becomes
CLOSED, the owner is cleared, and OK leaves. The Replay Queue, RP, the ORT, the queues and the tables stay, and no live
record is left (R101, R109, R139). -/
def Obligations.RelinquishDenies : Prop :=
  ∀ (c : Command) (s : State), FromOwner 0x02 c s → c.params = [] →
    (s.fu.fences ≠ [] ∨ s.mc.quiesce ≠ none → exec (.relinquish c) s = .next (s.answered 0x02 c .busy [])) ∧
    (s.fu.fences = [] → s.mc.quiesce = none →
      let denied := s.mu.records.foldl (fun s m => ((s.heldUnder m.ticket).foldl
        (fun s h => (s.refused .denied h.req).reported .denied h.domain h.req) s).forgot m.ticket) s
      exec (.relinquish c) s =
        .next (({ denied with mc := { denied.mc with admission := .closed, owner := none } } : State).answered
          0x02 c .ok []) ∧
      denied.mu.records = [] ∧ denied.replays = s.replays ∧ denied.mu.rp = s.mu.rp ∧ denied.mu.ticket = s.mu.ticket ∧
      denied.ports = s.ports ∧ denied.fu = s.fu ∧ denied.tu = s.tu ∧ denied.du = s.du ∧ denied.tb = s.tb)

/-- STATUS from any node gets OK with the 20 bytes of R193, and changes nothing; it is entered in the cache only where
its sender is the owner (R134, R142, R193). -/
def Obligations.StatusReports : Prop :=
  ∀ (c : Command) (s : State), Intact 0x03 c s → Fresh c s → c.params = [] →
    let links : Byte := (if s.ports[0].link = .up then 1 else 0) + (if s.ports[1].link = .up then 2 else 0) +
      (if s.ports[2].link = .up then 4 else 0) + (if s.ports[3].link = .up then 8 else 0) + 16
    let results : List Byte :=
      [match s.mc.admission with | .closed => 0 | .opened => 1 | .draining => 2 | .quiesced => 3,
       match s.mc.owner with | none => 0 | some _ => 1, match s.mc.owner with | none => 0 | some o => o,
       128 + s.strap.setWidth 8, match s.mc.cause.kind with | .power => 0 | .pin => 1 | .full => 2 | .traffic => 3,
       if s.mc.cause.trafficLost = true then 1 else 0, links, BitVec.ofNat 8 s.occupiedSlots.length,
       BitVec.ofNat 8 s.mu.held.length, BitVec.ofNat 8 s.mu.records.length, BitVec.ofNat 8 s.fu.fences.length,
       BitVec.ofNat 8 s.fl.records.length] ++ be16 s.fl.overflow ++ be16 s.mu.ticket ++
      [s.mc.noticeSeq, match s.tb.period with | .us1 => 0 | .us8 => 1 | .us64 => 2 | .us512 => 3,
       s.tb.missTimeout, s.tb.upstreamTimeout]
    (s.mc.owner = some c.source → exec (.status c) s = .next (s.answered 0x03 c .ok results)) ∧
    (s.mc.owner ≠ some c.source → exec (.status c) s = .next (s.replied 0x03 c .ok results))

/-! ### Admission (08) -/

/-- OPEN turns CLOSED into OPEN and gets WRONG_STATE elsewhere; CLOSE leaves admission CLOSED from every state; RELEASE
turns DRAINING and QUIESCED into OPEN and gets WRONG_STATE elsewhere. From DRAINING, CLOSE and RELEASE first answer the
pending QUIESCE ABORTED, to its node and sequence, and remove it (R153, R154, R159). -/
def Obligations.OpenCloseRelease : Prop :=
  (∀ (c : Command) (s : State), FromOwner 0x10 c s → c.params = [] →
     (s.mc.admission = .closed →
       exec (.openCmd c) s =
         .next (({ s with mc := { s.mc with admission := .opened } } : State).answered 0x10 c .ok [])) ∧
     (s.mc.admission ≠ .closed → exec (.openCmd c) s = .next (s.answered 0x10 c .wrongState []))) ∧
  (∀ (c : Command) (s : State), c.params = [] →
     (FromOwner 0x11 c s → s.mc.admission ≠ .draining →
       exec (.close c) s =
         .next (({ s with mc := { s.mc with admission := .closed } } : State).answered 0x11 c .ok [])) ∧
     (FromOwner 0x13 c s → s.mc.admission = .quiesced →
       exec (.release c) s =
         .next (({ s with mc := { s.mc with admission := .opened } } : State).answered 0x13 c .ok [])) ∧
     (FromOwner 0x13 c s → s.mc.admission = .opened ∨ s.mc.admission = .closed →
       exec (.release c) s = .next (s.answered 0x13 c .wrongState [])) ∧
     ∀ q, s.mc.admission = .draining → s.mc.quiesce = some q →
       let aborted (a : Admission) : State :=
         { s with mc := { s.mc with admission := a, quiesce := none }
                  sent := s.sent ++ [s.replyTo q.node q.sequence 0x12 .aborted []] }
       (FromOwner 0x11 c s → exec (.close c) s = .next ((aborted .closed).answered 0x11 c .ok [])) ∧
       (FromOwner 0x13 c s → exec (.release c) s = .next ((aborted .opened).answered 0x13 c .ok [])))

/-- QUIESCE in OPEN becomes QUIESCED with OK where the part is drained, and otherwise DRAINING with its reply deferred,
the QUIESCE pending and the cache entry naming it; it gets IN_PROGRESS in DRAINING, OK in QUIESCED and WRONG_STATE in
CLOSED, changing nothing there (R155, R156). That a drained part which still owes the reply of an emptied fence waits for
it in DRAINING is the model's reading of R125 and R157, log entry 6. -/
def Obligations.QuiesceDecides : Prop :=
  ∀ (c : Command) (s : State), FromOwner 0x12 c s → c.params = [] →
    (s.mc.admission = .opened →
      (s.Quiet → exec (.quiesce c) s =
        .next (({ s with mc := { s.mc with admission := .quiesced } } : State).answered 0x12 c .ok [])) ∧
      (¬ s.Quiet → exec (.quiesce c) s =
        .next (({ s with mc := { s.mc with
          admission := .draining
          quiesce := some { sequence := c.sequence, node := c.source } } } : State).deferred
            0x12 c .pendingQuiesce))) ∧
    (s.mc.admission = .draining → exec (.quiesce c) s = .next (s.answered 0x12 c .inProgress [])) ∧
    (s.mc.admission = .quiesced → exec (.quiesce c) s = .next (s.answered 0x12 c .ok [])) ∧
    (s.mc.admission = .closed → exec (.quiesce c) s = .next (s.answered 0x12 c .wrongState []))

/-! ### RESET (08) -/

/-- RESET TRAFFIC ends the traffic: every UP port's queue and staging position empty with the credits returned, every
ORT slot is freed with its incarnation kept, the Fence List and the miss unit empty, admission CLOSED, no QUIESCE
pending. The owner, the tables, the pointer, the Timebase and the whole Fault Log stay; the cause record is TRAFFIC with
the flag formed before; and the OK reply leaves last and fills the cache. Before it leave, in this order and nothing
else: port by port, a REFUSED RESET for the staged request and for each queued packet, posted ones apart, and a CREDIT
for the slots emptied; slot by slot, the slot's REFUSED RESET, orphans apart, and the OK replies of the fences that end
there; a REFUSED RESET for each request of the miss unit, Replay Queue first; ABORTED for a pending QUIESCE (R64, R86,
R112, R126, R150, R162, R164). That fences which are due already are replied to behind the ports' packets is the model's
reading, log entry 24. A RESET of any other kind gets BAD_PARAM and resets nothing (R161, R188); that it is of this row
is the model's choice, log entry 14. -/
def Obligations.ResetTrafficEndsTraffic : Prop :=
  ∀ (c : Command) (s : State), FromOwner 0x14 c s →
    (∀ k : Byte, c.params = [k] → k ≠ 1 → exec (.resetTraffic c) s = .next (s.answered 0x14 c .badParam [])) ∧
    (c.params = [1] → s.FenceLaw →
      ∃ t, exec (.resetTraffic c) s = .next t ∧ TrafficEnded s t ∧
        t.mc.owner = s.mc.owner ∧ t.mc.cause = { kind := .traffic, trafficLost := s.trafficLost } ∧
        t.mc.cache = some { source := c.source, sequence := c.sequence, code := 0x14, answer := .stored .ok [] } ∧
        t.tu = s.tu ∧ t.du = s.du ∧ t.fu.pointer = s.fu.pointer ∧ t.tb = s.tb ∧ t.fl = s.fl ∧
        t.sent = s.sent ++ s.resetSends ++ [s.replyTo c.source c.sequence 0x14 .ok []])

/-- RESET FULL ends the traffic as RESET TRAFFIC does, and clears the owner, the Mapping Table, the Stream Map, the
Domain Table and the Fault Log, sets the pointer to RP and the Timebase to its defaults; the fault sequence, notice
sequence and ticket counters stay. It sends what RESET TRAFFIC sends, in the same order, its own OK last (R25, R43, R64,
R86, R112, R126, R150, R162, R164, R179). Fences due already are replied to where RESET TRAFFIC does it, the model's
reading, log entry 24. -/
def Obligations.ResetFullClears : Prop :=
  ∀ (c : Command) (s : State), FromOwner 0x14 c s → c.params = [2] → s.FenceLaw →
    ∃ t, exec (.resetFull c) s = .next t ∧ TrafficEnded s t ∧
      t.mc.owner = none ∧ t.mc.cause = { kind := .full, trafficLost := s.trafficLost } ∧
      t.mc.cache = some { source := c.source, sequence := c.sequence, code := 0x14, answer := .stored .ok [] } ∧
      (∀ i : EntryIndex, t.tu.entries[i] = Entry.cleared) ∧ t.tu.clock = 0 ∧
      (∀ (p : Port) (st : Stream), t.du.streams[p][st] = none) ∧
      (∀ d : Domain, t.du.domains[d] = DomainRec.cleared) ∧ t.fu.pointer = .rp ∧
      t.tb = { period := .us64, missTimeout := 50, upstreamTimeout := 16, prescale := 0 } ∧
      t.fl.records = [] ∧ t.fl.overflow = 0 ∧
      t.sent = s.sent ++ s.resetSends ++ [s.replyTo c.source c.sequence 0x14 .ok []]

/-! ### Timing, streams and domains (04, 02) -/

/-- SET TIMING checks its parameters first, then idleness: in CLOSED or QUIESCED, with the ORT, the staging positions and
the miss unit empty, the three settings are written and the prescale count returns to 0; otherwise it gets WRONG_STATE,
and with a period code above 3 or a timeout of 0 BAD_PARAM (R84). -/
def Obligations.SetTimingWrites : Prop :=
  ∀ (c : Command) (period miss upstream : Byte) (s : State), FromOwner 0x18 c s →
    c.params = [period, miss, upstream] →
    let idle := (s.mc.admission = .closed ∨ s.mc.admission = .quiesced) ∧ s.Empty
    (3 < period.toNat ∨ miss = 0 ∨ upstream = 0 →
      exec (.setTiming c) s = .next (s.answered 0x18 c .badParam [])) ∧
    (period.toNat ≤ 3 → miss ≠ 0 → upstream ≠ 0 →
      (¬ idle → exec (.setTiming c) s = .next (s.answered 0x18 c .wrongState [])) ∧
      (idle → exec (.setTiming c) s =
        .next (({ s with tb :=
          { period := if period = 0 then .us1 else if period = 1 then .us8 else if period = 2 then .us64 else .us512
            missTimeout := miss, upstreamTimeout := upstream, prescale := 0 } } : State).answered 0x18 c .ok [])))

/-- BIND STREAM writes the Stream Map slot, marks stale every staged request of that port and stream in the five staging
positions, and answers OK with the previous binding; nothing else changes. A port above 3, a stream above 15 or a
binding neither a domain nor 0xFF gets BAD_PARAM (R29, R30). -/
def Obligations.BindStreamWrites : Prop :=
  ∀ (c : Command) (port stream binding : Byte) (s : State), FromOwner 0x20 c s →
    c.params = [port, stream, binding] →
    (3 < port.toNat ∨ 15 < stream.toNat ∨ (15 < binding.toNat ∧ binding ≠ 0xFF) →
      exec (.bindStream c) s = .next (s.answered 0x20 c .badParam [])) ∧
    ∀ (p : Port) (st : Stream) (b : Option Domain), port.toNat = p.val → stream.toNat = st.val →
      (binding = 0xFF ∧ b = none ∨ ∃ d : Domain, b = some d ∧ binding.toNat = d.val) →
      let mark (q : Staged) : Staged := if q.req.port = p ∧ q.req.stream = st then { q with stale := true } else q
      ∃ t : State, exec (.bindStream c) s =
          .next (t.answered 0x20 c .ok
            [match s.du.streams[p][st] with | none => 0xFF | some d => BitVec.ofNat 8 d.val]) ∧
        (∀ (p' : Port) (st' : Stream), t.du.streams[p'][st'] =
          if p' = p ∧ st' = st then b else s.du.streams[p'][st']) ∧
        t.du.domains = s.du.domains ∧
        (∀ p' : Port, t.ports[p'] = { s.ports[p'] with staging := s.ports[p'].staging.map mark }) ∧
        t.mu = { s.mu with rp := s.mu.rp.map mark } ∧ t.tu = s.tu ∧ t.fu = s.fu ∧ t.mc = s.mc ∧ t.tb = s.tb ∧
        t.fl = s.fl ∧ t.fabric = s.fabric ∧ t.strap = s.strap ∧ t.phase = s.phase ∧ t.sent = s.sent ∧
        t.pending = s.pending

/-- SET DOMAIN writes the six fields of the domain together, marks stale every staged request of that domain, and
answers OK without results; nothing else changes. Any parameter outside its range gets BAD_PARAM (R33, R34). -/
def Obligations.SetDomainWrites : Prop :=
  ∀ (c : Command) (domain state policy ceiling quota limit report : Byte) (s : State), FromOwner 0x22 c s →
    c.params = [domain, state, policy, ceiling, quota, limit, report] →
    let good := domain.toNat ≤ 15 ∧ state.toNat ≤ 2 ∧ policy.toNat ≤ 1 ∧ ceiling.toNat ≤ 7 ∧
      (1 ≤ quota.toNat ∧ quota.toNat ≤ 16) ∧ (1 ≤ limit.toNat ∧ limit.toNat ≤ 32) ∧ report.toNat ≤ 1
    (¬ good → exec (.setDomain c) s = .next (s.answered 0x22 c .badParam [])) ∧
    ∀ d : Domain, good → domain.toNat = d.val →
      let mark (q : Staged) : Staged := if q.domain = d then { q with stale := true } else q
      ∃ t : State, exec (.setDomain c) s = .next (t.answered 0x22 c .ok []) ∧
        (∀ e : Domain, t.du.domains[e] = if e = d then
          { state := if state = 0 then .active else if state = 1 then .paused else .barred
            policy := if policy = 0 then .hold else .fail
            ceiling := { r := ceiling.getLsbD 2, w := ceiling.getLsbD 1, p := ceiling.getLsbD 0 }
            quota := quota, limit := limit, report := decide (report = 1) } else s.du.domains[e]) ∧
        t.du.streams = s.du.streams ∧
        (∀ p : Port, t.ports[p] = { s.ports[p] with staging := s.ports[p].staging.map mark }) ∧
        t.mu = { s.mu with rp := s.mu.rp.map mark } ∧ t.tu = s.tu ∧ t.fu = s.fu ∧ t.mc = s.mc ∧ t.tb = s.tb ∧
        t.fl = s.fl ∧ t.fabric = s.fabric ∧ t.strap = s.strap ∧ t.phase = s.phase ∧ t.sent = s.sent ∧
        t.pending = s.pending

/-- READ STREAM answers the slot's value, and READ DOMAIN the six settable fields, the count of the domain's live miss
records and its count of ORT slots, as they stand; a port above 3, a stream or a domain above 15 gets BAD_PARAM. Neither
changes anything but for its reply (R31, R35, R40, R41). -/
def Obligations.StreamAndDomainReads : Prop :=
  (∀ (c : Command) (port stream : Byte) (s : State), FromOwner 0x21 c s → c.params = [port, stream] →
     (3 < port.toNat ∨ 15 < stream.toNat → exec (.readStream c) s = .next (s.answered 0x21 c .badParam [])) ∧
     ∀ (p : Port) (st : Stream), port.toNat = p.val → stream.toNat = st.val →
       exec (.readStream c) s = .next (s.answered 0x21 c .ok
         [match s.du.streams[p][st] with | none => 0xFF | some d => BitVec.ofNat 8 d.val])) ∧
  (∀ (c : Command) (domain : Byte) (s : State), FromOwner 0x23 c s → c.params = [domain] →
     (15 < domain.toNat → exec (.readDomain c) s = .next (s.answered 0x23 c .badParam [])) ∧
     ∀ d : Domain, domain.toNat = d.val →
       let r := s.du.domains[d]
       exec (.readDomain c) s = .next (s.answered 0x23 c .ok
         [match r.state with | .active => 0 | .paused => 1 | .barred => 2,
          match r.policy with | .hold => 0 | .fail => 1,
          (if r.ceiling.r = true then 4 else 0) + (if r.ceiling.w = true then 2 else 0) +
            (if r.ceiling.p = true then 1 else 0),
          r.quota, r.limit, if r.report = true then 1 else 0,
          BitVec.ofNat 8 (s.mu.records.filter fun m => m.domain = d).length,
          BitVec.ofNat 8 (s.occupiedSlots.filter fun i => s.fu.ort[i].domain = d).length]))
/-! ### The Mapping Table (01, 10) -/

/-- A mapping entry record of 16 bytes reads as R189 and R190 lay it out: it is malformed exactly where its size class
code is above 3 or its ticket is marked absent with bytes 14 and 15 other than 0xFFFF; the valid, pinned and hit bits
and, with the shared bit set, the domain bits do not matter. A list of another width is malformed. -/
def Obligations.MappingRecordReads : Prop :=
  ∀ (i f g n c3 c2 c1 c0 b5 b4 b3 b2 b1 b0 t1 t0 : Byte) (other : List Byte),
    let record := [i, f, g, n, c3, c2, c1, c0, b5, b4, b3, b2, b1, b0, t1, t0]
    let code := (g.toNat / 16) % 8
    let absent := g.getLsbD 7
    (3 < code ∨ (absent = true ∧ (t1 ≠ 0xFF ∨ t0 ≠ 0xFF)) → installOf record = none) ∧
    (code ≤ 3 → (absent = true → t1 = 0xFF ∧ t0 = 0xFF) →
      installOf record = some
        { index := i
          scope := if f.getLsbD 5 = true then .shared else .domain (Fin.ofNat 16 g.toNat)
          size := if code = 0 then .s4K else if code = 1 then .s32K else if code = 2 then .s256K else .s2M
          clientBase := c3 ++ c2 ++ c1 ++ c0, node := n, fabricBase := b5 ++ b4 ++ b3 ++ b2 ++ b1 ++ b0
          perms := { r := f.getLsbD 3, w := f.getLsbD 2, p := f.getLsbD 1 }, pin := f.getLsbD 0
          ticket := if absent = true then none else some (t1 ++ t0) }) ∧
    (other.length ≠ 16 → installOf other = none)

/-- READ ENTRY answers OK with the record of the entry, and BAD_PARAM for an index above 63; it changes nothing, hit flags
included. The record shows the valid, pinned, shared and hit flags in bits 7 to 4 of byte 1 and, read back as the
parameters of an INSTALL, spells the same index, scope, size class, bases, node and permissions, without a pin request
and without a ticket; the domain field of a SHARED entry is 0 (R22, R189, R190). -/
def Obligations.ReadEntryReports : Prop :=
  (∀ (c : Command) (x : Byte) (s : State), FromOwner 0x32 c s → c.params = [x] →
     (63 < x.toNat → exec (.readEntry c) s = .next (s.answered 0x32 c .badParam [])) ∧
     ∀ i : EntryIndex, x.toNat = i.val →
       exec (.readEntry c) s = .next (s.answered 0x32 c .ok (s.tu.entries[i].record i))) ∧
  (∀ (i : EntryIndex) (e : Entry),
     installOf (e.record i) = some
       { index := BitVec.ofNat 8 i.val, scope := e.scope, size := e.size, clientBase := e.clientBase, node := e.node,
         fabricBase := e.fabricBase.setWidth 48, perms := e.perms, pin := false, ticket := none } ∧
     ∃ flags, (e.record i)[1]? = some flags ∧ flags.getLsbD 7 = e.valid ∧ flags.getLsbD 6 = e.pinned ∧
       flags.getLsbD 5 = decide (e.scope = .shared) ∧ flags.getLsbD 4 = e.hit ∧
       (e.scope = .shared → ∃ group, (e.record i)[2]? = some group ∧ group.toNat % 16 = 0))

/-- INSTALL and INSTALL ANY make their checks in order: BAD_PARAM for a malformed record, an index that is neither 0 to 63
nor ANY, or parameters that do not fit; then OVERLAP; then PIN_LIMIT. At an explicit index the entry there is left out
of the last two. A command that fails changes nothing but for its reply (R11 to R14). That a malformed INSTALL is of one of
these rows is the model's choice, log entry 14. -/
def Obligations.InstallChecks : Prop :=
  ∀ (c : Command) (s : State), FromOwner 0x30 c s →
    (installOf c.params = none →
      exec (.install c) s = .next (s.answered 0x30 c .badParam []) ∧
      exec (.installAny c) s = .next (s.answered 0x30 c .badParam [])) ∧
    ∀ a : InstallArgs, installOf c.params = some a →
      (63 < a.index.toNat → exec (.install c) s = .next (s.answered 0x30 c .badParam [])) ∧
      (∀ i : EntryIndex, a.index.toNat = i.val →
        (¬ Fits s.ownNode a → exec (.install c) s = .next (s.answered 0x30 c .badParam [])) ∧
        (Fits s.ownNode a → Clashes a (fun j => j = i) s →
          exec (.install c) s = .next (s.answered 0x30 c .overlap [])) ∧
        (Fits s.ownNode a → ¬ Clashes a (fun j => j = i) s → a.pin = true →
          48 ≤ ((List.finRange 64).filter fun j =>
            decide (j ≠ i) && (s.tu.entries[j].valid && s.tu.entries[j].pinned)).length →
          exec (.install c) s = .next (s.answered 0x30 c .pinLimit []))) ∧
      (a.index = 0xFF →
        (¬ Fits s.ownNode a → exec (.installAny c) s = .next (s.answered 0x30 c .badParam [])) ∧
        (Fits s.ownNode a → Clashes a (fun _ => False) s →
          exec (.installAny c) s = .next (s.answered 0x30 c .overlap [])) ∧
        (Fits s.ownNode a → ¬ Clashes a (fun _ => False) s → a.pin = true → 48 ≤ s.pins →
          exec (.installAny c) s = .next (s.answered 0x30 c .pinLimit [])))

/-- An INSTALL at an index, its checks passed, writes the entry there and marks stale the requests staged through it; OK
carries the index, whether a valid entry was displaced, and the resolve outcome: NONE without a ticket, STALE for a
ticket no live record holds, DONE for one whose held requests then move to the tail of the Replay Queue (R15, R19, R20,
R23, R102). -/
def Obligations.InstallPlaces : Prop :=
  ∀ (c : Command) (a : InstallArgs) (i : EntryIndex) (s : State), FromOwner 0x30 c s → installOf c.params = some a →
    a.index.toNat = i.val → Fits s.ownNode a → ¬ Clashes a (fun j => j = i) s →
    (a.pin = true → ((List.finRange 64).filter fun j =>
      decide (j ≠ i) && (s.tu.entries[j].valid && s.tu.entries[j].pinned)).length < 48) →
    let displaced : Byte := if s.tu.entries[i].valid = true then 1 else 0
    (a.ticket = none →
      exec (.install c) s = .next ((s.placed i a).answered 0x30 c .ok [BitVec.ofNat 8 i.val, displaced, 0])) ∧
    ∀ t, a.ticket = some t →
      ((∀ m ∈ s.mu.records, m.ticket ≠ t) →
        exec (.install c) s = .next ((s.placed i a).answered 0x30 c .ok [BitVec.ofNat 8 i.val, displaced, 2])) ∧
      ((∃ m ∈ s.mu.records, m.ticket = t) →
        exec (.install c) s =
          .next (((s.placed i a).retried t).answered 0x30 c .ok [BitVec.ofNat 8 i.val, displaced, 1]))

/-- An INSTALL ANY, its checks passed, uses the lowest-numbered invalid entry if there is one, displacing none and moving
neither hit flags nor the clock pointer. With all 64 valid it sweeps from the clock pointer upward, round from 63 to 0:
if some unpinned entry has a clear hit flag, the first such is the victim and the hit flags of the unpinned entries
passed are cleared; if all unpinned entries have theirs set, all are cleared and the first unpinned entry is the
victim. The victim is displaced and the clock pointer moves behind it. A ticket is resolved as at an explicit index (R16
to R20). -/
def Obligations.InstallAnyPlaces : Prop :=
  ∀ (c : Command) (a : InstallArgs) (v : EntryIndex) (s : State), FromOwner 0x30 c s → installOf c.params = some a →
    a.index = 0xFF → Fits s.ownNode a → ¬ Clashes a (fun _ => False) s → (a.pin = true → s.pins < 48) →
    let passed (j : EntryIndex) : Nat := (j - s.tu.clock).val
    let installed (u : State) (displaced : Byte) : State :=
      ((u.placed v a).resolved a.ticket).answered 0x30 c .ok
        [BitVec.ofNat 8 v.val, displaced, s.resolveOutcome a.ticket]
    let unpinned (j : EntryIndex) : Prop := s.tu.entries[j].pinned = false
    (s.tu.entries[v].valid = false → (∀ j < v, s.tu.entries[j].valid = true) →
      exec (.installAny c) s = .next (installed s 0)) ∧
    ((∀ j : EntryIndex, s.tu.entries[j].valid = true) → unpinned v →
      (∀ es : Vector Entry 64, s.tu.entries[v].hit = false →
        (∀ j, passed j < passed v → unpinned j → s.tu.entries[j].hit = true) →
        (∀ j : EntryIndex, es[j] =
          if passed j < passed v ∧ unpinned j then { s.tu.entries[j] with hit := false } else s.tu.entries[j]) →
        exec (.installAny c) s =
          .next (installed { s with tu := { entries := es, clock := v + 1 } } 1)) ∧
      (∀ es : Vector Entry 64, (∀ j, unpinned j → s.tu.entries[j].hit = true) →
        (∀ j, unpinned j → passed v ≤ passed j) →
        (∀ j : EntryIndex, es[j] =
          if unpinned j then { s.tu.entries[j] with hit := false } else s.tu.entries[j]) →
        exec (.installAny c) s =
          .next (installed { s with tu := { entries := es, clock := v + 1 } } 1)))

/-- SET PIN: BAD_PARAM for an index above 63, an invalid entry, or a setting other than 0 and 1; on, a pinned entry stays
and an unpinned one becomes pinned, or gets PIN_LIMIT at 48; off, the entry becomes unpinned. OK carries the pinned
field and the pinned count afterwards, and nothing else changes (R21). -/
def Obligations.SetPinDecides : Prop :=
  ∀ (c : Command) (x setting : Byte) (s : State), FromOwner 0x31 c s → c.params = [x, setting] →
    let pinnedAs (i : EntryIndex) (b : Bool) : State :=
      { s with tu := { s.tu with entries := s.tu.entries.set i.val { s.tu.entries[i] with pinned := b } i.isLt } }
    (63 < x.toNat ∨ 1 < setting.toNat → exec (.setPin c) s = .next (s.answered 0x31 c .badParam [])) ∧
    ∀ i : EntryIndex, x.toNat = i.val →
      (s.tu.entries[i].valid = false → exec (.setPin c) s = .next (s.answered 0x31 c .badParam [])) ∧
      (s.tu.entries[i].valid = true → setting = 1 → s.tu.entries[i].pinned = true →
        exec (.setPin c) s = .next (s.answered 0x31 c .ok [1, BitVec.ofNat 8 s.pins])) ∧
      (s.tu.entries[i].valid = true → setting = 1 → s.tu.entries[i].pinned = false →
        (48 ≤ s.pins → exec (.setPin c) s = .next (s.answered 0x31 c .pinLimit [])) ∧
        (s.pins < 48 →
          exec (.setPin c) s = .next ((pinnedAs i true).answered 0x31 c .ok [1, BitVec.ofNat 8 (s.pins + 1)]))) ∧
      (s.tu.entries[i].valid = true → setting = 0 →
        exec (.setPin c) s = .next ((pinnedAs i false).answered 0x31 c .ok
          [0, BitVec.ofNat 8 (s.pins - if s.tu.entries[i].pinned = true then 1 else 0)]))

/-! ### INVALIDATE and FENCE (06) -/

/-- An INVALIDATE of any selector whose parameters pass invalidates exactly the valid entries it names and marks stale the
requests staged through them. Without the fence flag it answers OK with their count. With it, a full Fence List gets
BUSY and changes nothing; an empty ORT answers at once; otherwise the occupied slots are captured in a new record at
the end of the Fence List and the reply is deferred. A selector that names none, a fence flag neither 0 nor 1, an index,
domain or scope out of range, or a range that is empty or passes 2^32 gets BAD_PARAM and changes nothing (R114 to R116,
R118 to R120, R188). That an INVALIDATE whose selector names none is of the INVALIDATE_INDEX row is the model's choice,
log entry 14. -/
def Obligations.InvalidateDecides : Prop :=
  (∀ (c : Command) (row : Command → Instr) (selector flag x : Byte) (base length : Addr)
     (named : EntryIndex → Entry → Bool) (s : State), FromOwner 0x33 c s →
     c.params = [selector, flag, x] ++ be32 base ++ be32 length →
     Selects row selector x base.toNat length.toNat named →
     (flag = 0 →
       exec (row c) s =
         .next ((s.invalidated named).answered 0x33 c .ok [BitVec.ofNat 8 (s.countNamed named)])) ∧
     (flag = 1 → 4 ≤ s.fu.fences.length → exec (row c) s = .next (s.answered 0x33 c .busy [])) ∧
     (flag = 1 → s.fu.fences.length < 4 → (∀ i : SlotIndex, s.fu.ort[i].occupied = false) →
       exec (row c) s =
         .next ((s.invalidated named).answered 0x33 c .ok [BitVec.ofNat 8 (s.countNamed named)])) ∧
     (flag = 1 → s.fu.fences.length < 4 → (∃ i : SlotIndex, s.fu.ort[i].occupied = true) →
       exec (row c) s = .next (((s.invalidated named).fenced .invalidate c (s.countNamed named)).deferred 0x33 c
         (.pendingFence s.fu.nextFence)))) ∧
  (∀ (c : Command) (row : Command → Instr) (selector flag x : Byte) (base length : Addr) (s : State),
     FromOwner 0x33 c s → c.params = [selector, flag, x] ++ be32 base ++ be32 length →
     (row = .invalidateIndex ∧ (selector = 0 ∨ 5 < selector.toNat ∨ 1 < flag.toNat ∨ 63 < x.toNat)) ∨
       (row = .invalidateDomain ∧ (1 < flag.toNat ∨ 15 < x.toNat)) ∨
       (row = .invalidateRange ∧ (1 < flag.toNat ∨ (15 < x.toNat ∧ x ≠ 0xFF) ∨ length = 0 ∨
         2 ^ 32 < base.toNat + length.toNat)) ∨
       (row = .invalidateUnpinned ∧ 1 < flag.toNat) ∨ (row = .invalidateAll ∧ 1 < flag.toNat) →
     exec (row c) s = .next (s.answered 0x33 c .badParam []))

/-- A FENCE with a full Fence List gets BUSY; with an empty ORT it gets OK with count 0 at once; otherwise it leaves a
record that captures the occupied slots, and its reply is deferred. No entry changes and nothing is marked stale (R118
to R121). -/
def Obligations.FenceCaptures : Prop :=
  ∀ (c : Command) (s : State), FromOwner 0x34 c s → c.params = [] →
    (4 ≤ s.fu.fences.length → exec (.fence c) s = .next (s.answered 0x34 c .busy [])) ∧
    (s.fu.fences.length < 4 → (∀ i : SlotIndex, s.fu.ort[i].occupied = false) →
      exec (.fence c) s = .next (s.answered 0x34 c .ok [0])) ∧
    (s.fu.fences.length < 4 → (∃ i : SlotIndex, s.fu.ort[i].occupied = true) →
      exec (.fence c) s = .next ((s.fenced .fence c 0).deferred 0x34 c (.pendingFence s.fu.nextFence)))

/-! ### RESOLVE, READ MISSES, LOG READ (05, 09) -/

/-- A RESOLVE of a ticket that no live record holds gets STALE, and an action that is neither RETRY nor DENY BAD_PARAM.
RETRY moves the held list to the tail of the Replay Queue, DENY refuses each held request DENIED in held-list order,
reported where its domain asks for it; both free the record and answer OK with the number of requests (R100 to R102).
That a drain which a denial makes possible is a step of its own is the model's reading, log entry 6, and that a RESOLVE
whose action names none is of the RESOLVE_RETRY row its choice, log entry 14. -/
def Obligations.ResolveDecides : Prop :=
  ∀ (c : Command) (t : Half) (action : Byte) (s : State), FromOwner 0x40 c s → c.params = be16 t ++ [action] →
    let count : Byte := BitVec.ofNat 8 (s.heldUnder t).length
    (action ≠ 1 → exec (.resolveRetry c) s = .next (s.answered 0x40 c .badParam [])) ∧
    ((∀ m ∈ s.mu.records, m.ticket ≠ t) →
      (action = 1 → exec (.resolveRetry c) s = .next (s.answered 0x40 c .stale [])) ∧
      (action = 2 → exec (.resolveDeny c) s = .next (s.answered 0x40 c .stale []))) ∧
    ((∃ m ∈ s.mu.records, m.ticket = t) →
      (action = 1 → exec (.resolveRetry c) s = .next ((s.retried t).answered 0x40 c .ok [count])) ∧
      (action = 2 → exec (.resolveDeny c) s =
        .next ((((s.heldUnder t).foldl
          (fun s h => (s.refused .denied h.req).reported .denied h.domain h.req) s).forgot t).answered 0x40 c .ok
            [count])))

/-- READ MISSES gets BAD_PARAM for an offset above 15, and otherwise OK with the number of live records, the number
returned, and at most 8 records from that position on in creation order, each laid out as R191 gives; it changes
nothing (R110, R191). That a record whose timer has reached zero, its expiry still to be taken, shows a remaining count of
0, where R191 gives 1 to 255, is the model's choice, log entry 21. -/
def Obligations.ReadMissesReports : Prop :=
  ∀ (c : Command) (offset : Byte) (s : State), FromOwner 0x41 c s → c.params = [offset] →
    let records := (s.mu.records.drop offset.toNat).take 8
    let laidOut (m : MissRec) : List Byte :=
      be16 m.ticket ++ [BitVec.ofNat 8 m.domain.val] ++ be20 m.page ++
        [(if m.wanted.r = true then 4 else 0) + (if m.wanted.w = true then 2 else 0) +
           (if m.wanted.p = true then 1 else 0),
         BitVec.ofNat 8 m.firstPort.val, BitVec.ofNat 8 m.firstStream.val,
         BitVec.ofNat 8 (s.heldUnder m.ticket).length, m.timer]
    (15 < offset.toNat → exec (.readMisses c) s = .next (s.answered 0x41 c .badParam [])) ∧
    (offset.toNat ≤ 15 →
      exec (.readMisses c) s = .next (s.answered 0x41 c .ok
        ([BitVec.ofNat 8 s.mu.records.length, BitVec.ofNat 8 records.length] ++ records.flatMap laidOut)))

/-- LOG READ gets BAD_PARAM for a count outside 1 to 4. Otherwise it removes up to that many of the oldest records and
answers OK with their number, the overflow count as it stood, the number left, and the records, oldest first; the
overflow count is set to 0 where the log is left empty, and the fault sequence counter stays. An empty log returns no
record, an overflow count of 0 and a remainder of 0 (R177, R187, R192). -/
def Obligations.LogReadRemoves : Prop :=
  ∀ (c : Command) (n : Byte) (s : State), FromOwner 0x50 c s → c.params = [n] →
    let taken := s.fl.records.take n.toNat
    let left := s.fl.records.drop n.toNat
    let presence (r : FaultRec) : Byte :=
      (if r.stream = none then 0 else 32) + (if r.domain = none then 0 else 16) + (if r.address = none then 0 else 8) +
        (if r.ticket = none then 0 else 4) + (if r.tag = none then 0 else 2) + (if r.code = none then 0 else 1)
    let laidOut (r : FaultRec) : List Byte :=
      be16 r.sequence ++
        [r.kind.byte, match r.source with | .port p => BitVec.ofNat 8 p.val | .fabric => 4, presence r,
         match r.stream with | none => 0 | some x => BitVec.ofNat 8 x.val,
         match r.domain with | none => 0 | some x => BitVec.ofNat 8 x.val,
         match r.tag with | none => 0 | some x => x] ++
        be32 (match r.address with | none => 0 | some x => x) ++
        be16 (match r.ticket with | none => 0 | some x => x) ++ be16 (match r.code with | none => 0 | some x => x)
    (n = 0 ∨ 4 < n.toNat → exec (.logRead c) s = .next (s.answered 0x50 c .badParam [])) ∧
    (n ≠ 0 → n.toNat ≤ 4 →
      exec (.logRead c) s = .next (({ s with
        fl := { s.fl with records := left, overflow := if left = [] then 0 else s.fl.overflow } } : State).answered
          0x50 c .ok ([BitVec.ofNat 8 taken.length] ++ be16 s.fl.overflow ++ [BitVec.ofNat 8 left.length] ++
            taken.flatMap laidOut))) ∧
    (n ≠ 0 → n.toNat ≤ 4 → s.fl.records = [] → s.LogLaw →
      exec (.logRead c) s = .next (s.answered 0x50 c .ok [0, 0, 0, 0]))


/-! ### Frames (10) -/

/-- The bytes of a frame spell their row, with every operand: a frame to the part's own node with a good header check,
whatever its unexamined fields, spells the COMMAND row of its code and selecting byte, UNKNOWN_COMMAND for a code outside
the catalogue and, with no code, for a COMMAND without a payload, the response row of its kind, for every well-formed
row, and UNSOLICITED_PACKET for every other kind. A frame of a good length and header check for another node spells
FOREIGN_PACKET whatever its kind; a frame that is neither 16 nor 19 to 274 bytes long, or whose header check is not
good, spells FABRIC_BAD_FRAME (R73, R129, R147, R148, R180, R181, R184, R187). Which row a COMMAND without a payload and a
malformed RESET, INSTALL, INVALIDATE or RESOLVE spell is the model's choice, log entry 14, and which fields a row carries
that of log entry 23. -/
def Obligations.FramesSpellRows : Prop :=
  ∀ (own st tag seq : Byte) (length : Half) (address : BitVec 48),
    (∀ frame : List Byte, frame.length ≠ 16 → frame.length < 19 ∨ 274 < frame.length →
      fabricRow own frame = .fabricBadFrame frame) ∧
    (∀ (header rest : List Byte) (check : Half), header.length = 14 → check ≠ checkWord header →
      fabricRow own (header ++ be16 check ++ rest) = .fabricBadFrame (header ++ be16 check ++ rest)) ∧
    (∀ (kind source destination : Byte) (payload : Option Payload),
      (∀ p, payload = some p → 1 ≤ p.bytes.length ∧ p.bytes.length ≤ 256) →
      let row := fabricRow own
        (frameOf ([kind, st, source, destination, tag, seq] ++ be16 length ++ be48 address) payload)
      (destination ≠ own → row = .foreignPacket destination) ∧
      (destination = own → kind ∉ takenKinds → row = .unsolicitedPacket source kind) ∧
      (destination = own → kind = 0x60 → payload = none → row = .unknownCommand source seq [] 0)) ∧
    (∀ (code : Byte) (row : Command → Instr) (c : Command), (code, row) ∈ commandRows → (row c).wf = true →
      fabricRow own (frameOf ([0x60, st, c.source, own, tag, c.sequence] ++ be16 length ++ be48 address)
        (some { bytes := code :: c.params, check := c.check })) = row c) ∧
    (∀ (source code : Byte) (params : List Byte) (check : Half), code ∉ catalogue → params.length ≤ 255 →
      fabricRow own (frameOf ([0x60, st, source, own, tag, seq] ++ be16 length ++ be48 address)
        (some { bytes := code :: params, check := check })) =
          .unknownCommand source seq (code :: params) check) ∧
    ∀ r : Response, r.wf = true →
      let frame (kind : Byte) : List Byte :=
        frameOf ([kind, r.status, r.source, own, r.tag, seq] ++ be16 length ++ be48 r.address) r.payload
      fabricRow own (frame 0x51) = .readData r ∧ fabricRow own (frame 0x52) = .writeAck r ∧
      fabricRow own (frame 0x5F) = .fabricError r

/-- What the part sends can be read: the frame of a client packet of at most 256 payload bytes reads back as the packet,
its payload check good; the frame of a fabric packet passes length and header check at every node, is the destination's
and foreign to every other. Running the computation of the check word over bytes followed by a check word leaves 0
exactly where that word is the check word of the bytes. The reply statuses, completion codes and fault kinds, which the
other statements name, are carried as the bytes of their tables (R148, R170, R180 to R182, R184). -/
def Obligations.SentFramesReadBack : Prop :=
  (∀ k : ClientPacket, k.payload.length ≤ 256 →
    clientPacket k.frame = some
      { kind := k.kind, streamByte := k.streamByte, tag := k.tag, code := k.code, length := k.length,
        address := k.address, payload := carried k.payload }) ∧
  (∀ (k : FabricPacket) (own : Byte), k.payload.length ≤ 256 →
    (own ≠ k.destination → fabricRow own k.frame = .foreignPacket k.destination) ∧
    (own = k.destination → k.kind ∉ takenKinds → fabricRow own k.frame = .unsolicitedPacket k.source k.kind)) ∧
  (∀ (covered : List Byte) (check : Half), checkWord (covered ++ be16 check) = 0 ↔ check = checkWord covered) ∧
  ([ReplyStatus.ok, .pending, .aborted, .inProgress, .wrongState, .badParam, .overlap, .pinLimit, .stale, .notOwner,
    .busy, .unknown].map ReplyStatus.byte = [0x00, 0x01, 0x02, 0x03, 0x04, 0x05, 0x06, 0x07, 0x08, 0x09, 0x0A, 0x0B]) ∧
  ([RefusalCode.notReady, .busy, .notBound, .denied, .noMap, .access, .missTimeout, .upstreamTimeout, .upstreamError,
    .upstreamLost, .malformed, .reset].map RefusalCode.byte =
      [0x01, 0x02, 0x03, 0x04, 0x05, 0x06, 0x07, 0x08, 0x09, 0x0A, 0x0B, 0x0C]) ∧
  ([FaultKind.checkError, .overrun, .strayResponse, .upstreamProtocol, .postedFailed, .missExpired, .refusal,
    .unsolicited].map FaultKind.byte = [1, 2, 3, 4, 5, 6, 7, 8])

/-! ### Every step -/

/-- The model's queue: a step with a command at the front of the queue is the meaning of that command on the state with
the queue's rest. -/
def Obligations.StepRunsFront : Prop :=
  ∀ (c : Instr) (rest : List Instr) (s : State),
    step { s with pending := c :: rest } = exec c { s with pending := rest }

/-- Every command leaves the queue as it was and only adds to what was sent. What it sends goes to links that are UP: a
client packet, of a kind of R183, to a port that is UP afterwards, a fabric packet, of a kind of R184 and from the part's
own node, over a fabric link that is UP before and after (R47, R60, R72, R130, R145, R167, R182, R184). -/
def Obligations.OnlyUpLinksCarry : Prop :=
  ∀ (c : Instr) (s t : State), exec c s = .next t →
    t.pending = s.pending ∧
    ∃ l, t.sent = s.sent ++ l ∧ ∀ x ∈ l, match x with
      | .client p k => t.ports[p].link = .up ∧ k.kind ∈ [0x21, 0x22, 0x2F, 0x30]
      | .fabric k => s.fabric = .up ∧ t.fabric = .up ∧ k.source = s.ownNode ∧ k.kind ∈ [0x41, 0x42, 0x43, 0x61, 0x62]

/-- The model's choice of log entry 4: an event that the part takes by itself, put into the queue while it is not due,
changes nothing. When each is due is the spec's: R53, R59, R69, R79, R98, R105, R107, R122, R157. -/
def Obligations.OnlyDueEventsAct : Prop :=
  ∀ (event : Instr) (s : State), byItself event = true → event ∉ s.due → exec event s = .next s

/-- The state after reset, and after POWER_ON with any strap, keeps every law of the part. -/
def Obligations.ResetKeepsLaws : Prop :=
  ∀ (strap : BitVec 4) (t : State), exec (.powerOn strap) State.reset = .next t →
    ∀ s, s = State.reset ∨ s = t →
      s.CreditLaw ∧ s.PinLaw ∧ s.OverlapLaw ∧ s.EntryLaw ∧ s.DomainLaw ∧ s.FenceLaw ∧ s.TimerLaw ∧ s.RecordLaw ∧
      s.HeldLaw ∧ s.RpLaw ∧ s.CacheLaw ∧ s.LogLaw ∧ s.OwnerLaw ∧ s.NotifiedLaw ∧ s.QuiesceLaw ∧ s.QuietLaw ∧ s.TimingLaw ∧
      s.TranslationLaw

/-- Every step keeps the credit law: while a port's link is UP its credits and its occupied queue slots make 8, and while
it is DOWN the port holds nothing (R45). -/
def Obligations.CreditsAreConserved : Prop :=
  ∀ s t : State, s.CreditLaw → step s = .next t → t.CreditLaw

/-- From a state that keeps the laws of the Mapping Table every step goes on, to a state that keeps them: at most 48
pinned entries and none of them invalid, no two overlapping entries that one domain sees, and every valid entry sound.
So the clock sweep of INSTALL ANY always ends (R1, R3, R13, R18, R24). -/
def Obligations.TableLawsAreKept : Prop :=
  ∀ s : State, s.PinLaw → s.OverlapLaw → s.EntryLaw → ∃ t, step s = .next t ∧ t.PinLaw ∧ t.OverlapLaw ∧ t.EntryLaw

/-- No grant under an old translation: every step keeps it so that each staged request that is not stale, and so could
be granted, holds the translation the tables give now, allowed under the ceiling its domain has now, in an ACTIVE domain,
and at a port under the binding its stream has now. Every change of an entry, a binding or a domain record marks what it
touches (R8, R23, R30, R34, R36, R68). -/
def Obligations.TranslationsStayCurrent : Prop :=
  ∀ s t : State, s.CreditLaw → s.TranslationLaw → step s = .next t → t.TranslationLaw

/-- Every step keeps the fence, timer and cache laws: at most 4 fence records with names of their own, each captured slot
occupied and captured once by a record; no running upstream timer above the upstream timeout setting; and a replay cache
that holds no command of the part's own node, and whose entry, while it is PENDING, names a fence record or a pending
QUIESCE of its own node, sequence and code, so that its deferred reply is still to come. A fence record that outlasts a
step captures no slot it did not capture before, and the remaining count of each slot it captures is as it was, or lower by
one where a tick passed; and a record that outlasts a tick still captures a slot. So a fence created under an upstream
timeout of N does not outlast an (N + 1)th tick (R81, R118, R119, R124, R133 to R135). What is taken before a tick, the
fence replies and the expiries that are due, is the model's choice: DESIGN CHOICE (log entries 2 and 21). -/
def Obligations.FencesAndTimersAreKept : Prop :=
  ∀ s t : State, s.FenceLaw → s.TimerLaw → s.CacheLaw → step s = .next t →
    t.FenceLaw ∧ t.TimerLaw ∧ t.CacheLaw ∧
    ∀ f ∈ s.fu.fences, ∀ g ∈ t.fu.fences, g.id = f.id →
      (s.TickPasses → g.captured ≠ []) ∧
      ∀ i ∈ g.captured, i ∈ f.captured ∧
        (¬ s.TickPasses → t.fu.ort[i].timer = s.fu.ort[i].timer) ∧
        (s.TickPasses → t.fu.ort[i].timer.toNat + 1 = s.fu.ort[i].timer.toNat)

/-- Every step keeps the laws of the miss unit: at most 16 live records, no two with one ticket or with one domain and
page; at most 32 held requests, each one held under a ticket under a live record of its domain and page, and no record
without one; and the request at RP is the first of the Replay Queue (R89 to R92, R103). -/
def Obligations.MissUnitLawsAreKept : Prop :=
  ∀ s t : State, s.RecordLaw → s.HeldLaw → s.RpLaw → step s = .next t → t.RecordLaw ∧ t.HeldLaw ∧ t.RpLaw

/-- Every step keeps the laws of ownership and admission: an owner, never the part's own node, while OPEN or DRAINING; no
live record without an owner; a pending QUIESCE exactly while DRAINING; and while QUIESCED the ORT, all five staging
positions, the Held Store and the Miss List empty and no fence reply left to send (R109, R137, R152, R155, R157, R158). -/
def Obligations.QuiescedStaysQuiet : Prop :=
  ∀ s t : State, s.OwnerLaw → s.NotifiedLaw → s.QuiesceLaw → s.QuietLaw → step s = .next t →
    t.OwnerLaw ∧ t.NotifiedLaw ∧ t.QuiesceLaw ∧ t.QuietLaw

/-- Every step keeps the laws of the Fault Log, the Domain Table and the Timebase: at most 16 fault records, and a counted
overflow only while the log is not empty; quotas of 1 to 16 and limits of 1 to 32; timeouts of at least one tick and a
prescale count below the period's prescale (R32, R33, R82, R84, R173, R177). -/
def Obligations.LogDomainTimingLawsAreKept : Prop :=
  ∀ s t : State, s.LogLaw → s.DomainLaw → s.TimingLaw → step s = .next t → t.LogLaw ∧ t.DomainLaw ∧ t.TimingLaw
end

