-- ==== Sys2Proof/Laws/State.lean ====
section
/-! SUPPORT. What each update of the state leaves and what it writes: one lemma for each field, for simp. -/

namespace Sys2Proof.Machine

/-! ### Reading a table after a write -/

@[simp] theorem getElem_mapTable {α β : Type} {n : Nat} (f : α → β) (v : Vector α n) (i : Nat) (h : i < n) :
    (mapTable f v)[i] = f v[i] := by
  simp [mapTable]

theorem State.updPort_ports_self (p : Port) (f : PortState → PortState) (s : State) :
    (s.updPort p f).ports[p] = f s.ports[p] := by
  simp [State.updPort]

theorem State.updPort_ports_ne (p q : Port) (f : PortState → PortState) (s : State) (h : q ≠ p) :
    (s.updPort p f).ports[q] = s.ports[q] := by
  have h' : ¬ p.val = q.val := fun e => h (Fin.ext e.symm)
  simp [State.updPort, h']

@[simp] theorem State.updPort_ports (p : Port) (f : PortState → PortState) (s : State) (j : Nat) (h : j < 4) :
    (s.updPort p f).ports[j] = if p.val = j then f s.ports[p.val] else s.ports[j] := by
  simp [State.updPort, Vector.getElem_set]

@[simp] theorem State.setStaging_ports (p : Port) (q : Option Staged) (s : State) (j : Nat) (h : j < 4) :
    (s.setStaging p q).ports[j] = if p.val = j then { s.ports[p.val] with staging := q } else s.ports[j] := by
  simp [State.setStaging]

@[simp] theorem State.updSlot_ort (i : SlotIndex) (f : Slot → Slot) (s : State) (j : Nat) (h : j < 32) :
    (s.updSlot i f).fu.ort[j] = if i.val = j then f s.fu.ort[i.val] else s.fu.ort[j] := by
  simp [State.updSlot, Vector.getElem_set]

@[simp] theorem State.updEntry_entries (i : EntryIndex) (f : Entry → Entry) (s : State) (j : Nat) (h : j < 64) :
    (s.updEntry i f).tu.entries[j] = if i.val = j then f s.tu.entries[i.val] else s.tu.entries[j] := by
  simp [State.updEntry, Vector.getElem_set]

/-! ### Fields -/

@[simp] theorem State.updPort_fabric (p : Port) (f : PortState → PortState) (s : State) : (s.updPort p f).fabric = s.fabric := rfl
@[simp] theorem State.updPort_strap (p : Port) (f : PortState → PortState) (s : State) : (s.updPort p f).strap = s.strap := rfl
@[simp] theorem State.updPort_tu (p : Port) (f : PortState → PortState) (s : State) : (s.updPort p f).tu = s.tu := rfl
@[simp] theorem State.updPort_du (p : Port) (f : PortState → PortState) (s : State) : (s.updPort p f).du = s.du := rfl
@[simp] theorem State.updPort_fu (p : Port) (f : PortState → PortState) (s : State) : (s.updPort p f).fu = s.fu := rfl
@[simp] theorem State.updPort_mu (p : Port) (f : PortState → PortState) (s : State) : (s.updPort p f).mu = s.mu := rfl
@[simp] theorem State.updPort_mc (p : Port) (f : PortState → PortState) (s : State) : (s.updPort p f).mc = s.mc := rfl
@[simp] theorem State.updPort_tb (p : Port) (f : PortState → PortState) (s : State) : (s.updPort p f).tb = s.tb := rfl
@[simp] theorem State.updPort_fl (p : Port) (f : PortState → PortState) (s : State) : (s.updPort p f).fl = s.fl := rfl
@[simp] theorem State.updPort_phase (p : Port) (f : PortState → PortState) (s : State) : (s.updPort p f).phase = s.phase := rfl
@[simp] theorem State.updPort_sent (p : Port) (f : PortState → PortState) (s : State) : (s.updPort p f).sent = s.sent := rfl
@[simp] theorem State.updPort_pending (p : Port) (f : PortState → PortState) (s : State) : (s.updPort p f).pending = s.pending := rfl
@[simp] theorem State.updSlot_ports (i : SlotIndex) (f : Slot → Slot) (s : State) : (s.updSlot i f).ports = s.ports := rfl
@[simp] theorem State.updSlot_fabric (i : SlotIndex) (f : Slot → Slot) (s : State) : (s.updSlot i f).fabric = s.fabric := rfl
@[simp] theorem State.updSlot_strap (i : SlotIndex) (f : Slot → Slot) (s : State) : (s.updSlot i f).strap = s.strap := rfl
@[simp] theorem State.updSlot_tu (i : SlotIndex) (f : Slot → Slot) (s : State) : (s.updSlot i f).tu = s.tu := rfl
@[simp] theorem State.updSlot_du (i : SlotIndex) (f : Slot → Slot) (s : State) : (s.updSlot i f).du = s.du := rfl
@[simp] theorem State.updSlot_mu (i : SlotIndex) (f : Slot → Slot) (s : State) : (s.updSlot i f).mu = s.mu := rfl
@[simp] theorem State.updSlot_mc (i : SlotIndex) (f : Slot → Slot) (s : State) : (s.updSlot i f).mc = s.mc := rfl
@[simp] theorem State.updSlot_tb (i : SlotIndex) (f : Slot → Slot) (s : State) : (s.updSlot i f).tb = s.tb := rfl
@[simp] theorem State.updSlot_fl (i : SlotIndex) (f : Slot → Slot) (s : State) : (s.updSlot i f).fl = s.fl := rfl
@[simp] theorem State.updSlot_phase (i : SlotIndex) (f : Slot → Slot) (s : State) : (s.updSlot i f).phase = s.phase := rfl
@[simp] theorem State.updSlot_sent (i : SlotIndex) (f : Slot → Slot) (s : State) : (s.updSlot i f).sent = s.sent := rfl
@[simp] theorem State.updSlot_pending (i : SlotIndex) (f : Slot → Slot) (s : State) : (s.updSlot i f).pending = s.pending := rfl
@[simp] theorem State.updSlot_fu_pointer (i : SlotIndex) (f : Slot → Slot) (s : State) : (s.updSlot i f).fu.pointer = s.fu.pointer := rfl
@[simp] theorem State.updSlot_fu_fences (i : SlotIndex) (f : Slot → Slot) (s : State) : (s.updSlot i f).fu.fences = s.fu.fences := rfl
@[simp] theorem State.updSlot_fu_nextFence (i : SlotIndex) (f : Slot → Slot) (s : State) : (s.updSlot i f).fu.nextFence = s.fu.nextFence := rfl
@[simp] theorem State.updEntry_ports (i : EntryIndex) (f : Entry → Entry) (s : State) : (s.updEntry i f).ports = s.ports := rfl
@[simp] theorem State.updEntry_fabric (i : EntryIndex) (f : Entry → Entry) (s : State) : (s.updEntry i f).fabric = s.fabric := rfl
@[simp] theorem State.updEntry_strap (i : EntryIndex) (f : Entry → Entry) (s : State) : (s.updEntry i f).strap = s.strap := rfl
@[simp] theorem State.updEntry_du (i : EntryIndex) (f : Entry → Entry) (s : State) : (s.updEntry i f).du = s.du := rfl
@[simp] theorem State.updEntry_fu (i : EntryIndex) (f : Entry → Entry) (s : State) : (s.updEntry i f).fu = s.fu := rfl
@[simp] theorem State.updEntry_mu (i : EntryIndex) (f : Entry → Entry) (s : State) : (s.updEntry i f).mu = s.mu := rfl
@[simp] theorem State.updEntry_mc (i : EntryIndex) (f : Entry → Entry) (s : State) : (s.updEntry i f).mc = s.mc := rfl
@[simp] theorem State.updEntry_tb (i : EntryIndex) (f : Entry → Entry) (s : State) : (s.updEntry i f).tb = s.tb := rfl
@[simp] theorem State.updEntry_fl (i : EntryIndex) (f : Entry → Entry) (s : State) : (s.updEntry i f).fl = s.fl := rfl
@[simp] theorem State.updEntry_phase (i : EntryIndex) (f : Entry → Entry) (s : State) : (s.updEntry i f).phase = s.phase := rfl
@[simp] theorem State.updEntry_sent (i : EntryIndex) (f : Entry → Entry) (s : State) : (s.updEntry i f).sent = s.sent := rfl
@[simp] theorem State.updEntry_pending (i : EntryIndex) (f : Entry → Entry) (s : State) : (s.updEntry i f).pending = s.pending := rfl
@[simp] theorem State.updEntry_tu_clock (i : EntryIndex) (f : Entry → Entry) (s : State) : (s.updEntry i f).tu.clock = s.tu.clock := rfl
@[simp] theorem State.setStaging_fabric (p : Port) (q : Option Staged) (s : State) : (s.setStaging p q).fabric = s.fabric := rfl
@[simp] theorem State.setStaging_strap (p : Port) (q : Option Staged) (s : State) : (s.setStaging p q).strap = s.strap := rfl
@[simp] theorem State.setStaging_tu (p : Port) (q : Option Staged) (s : State) : (s.setStaging p q).tu = s.tu := rfl
@[simp] theorem State.setStaging_du (p : Port) (q : Option Staged) (s : State) : (s.setStaging p q).du = s.du := rfl
@[simp] theorem State.setStaging_fu (p : Port) (q : Option Staged) (s : State) : (s.setStaging p q).fu = s.fu := rfl
@[simp] theorem State.setStaging_mu (p : Port) (q : Option Staged) (s : State) : (s.setStaging p q).mu = s.mu := rfl
@[simp] theorem State.setStaging_mc (p : Port) (q : Option Staged) (s : State) : (s.setStaging p q).mc = s.mc := rfl
@[simp] theorem State.setStaging_tb (p : Port) (q : Option Staged) (s : State) : (s.setStaging p q).tb = s.tb := rfl
@[simp] theorem State.setStaging_fl (p : Port) (q : Option Staged) (s : State) : (s.setStaging p q).fl = s.fl := rfl
@[simp] theorem State.setStaging_phase (p : Port) (q : Option Staged) (s : State) : (s.setStaging p q).phase = s.phase := rfl
@[simp] theorem State.setStaging_sent (p : Port) (q : Option Staged) (s : State) : (s.setStaging p q).sent = s.sent := rfl
@[simp] theorem State.setStaging_pending (p : Port) (q : Option Staged) (s : State) : (s.setStaging p q).pending = s.pending := rfl
@[simp] theorem State.setRp_ports (q : Option Staged) (s : State) : (s.setRp q).ports = s.ports := rfl
@[simp] theorem State.setRp_fabric (q : Option Staged) (s : State) : (s.setRp q).fabric = s.fabric := rfl
@[simp] theorem State.setRp_strap (q : Option Staged) (s : State) : (s.setRp q).strap = s.strap := rfl
@[simp] theorem State.setRp_tu (q : Option Staged) (s : State) : (s.setRp q).tu = s.tu := rfl
@[simp] theorem State.setRp_du (q : Option Staged) (s : State) : (s.setRp q).du = s.du := rfl
@[simp] theorem State.setRp_fu (q : Option Staged) (s : State) : (s.setRp q).fu = s.fu := rfl
@[simp] theorem State.setRp_mc (q : Option Staged) (s : State) : (s.setRp q).mc = s.mc := rfl
@[simp] theorem State.setRp_tb (q : Option Staged) (s : State) : (s.setRp q).tb = s.tb := rfl
@[simp] theorem State.setRp_fl (q : Option Staged) (s : State) : (s.setRp q).fl = s.fl := rfl
@[simp] theorem State.setRp_phase (q : Option Staged) (s : State) : (s.setRp q).phase = s.phase := rfl
@[simp] theorem State.setRp_sent (q : Option Staged) (s : State) : (s.setRp q).sent = s.sent := rfl
@[simp] theorem State.setRp_pending (q : Option Staged) (s : State) : (s.setRp q).pending = s.pending := rfl
@[simp] theorem State.setRp_mu_records (q : Option Staged) (s : State) : (s.setRp q).mu.records = s.mu.records := rfl
@[simp] theorem State.setRp_mu_held (q : Option Staged) (s : State) : (s.setRp q).mu.held = s.mu.held := rfl
@[simp] theorem State.setRp_mu_ticket (q : Option Staged) (s : State) : (s.setRp q).mu.ticket = s.mu.ticket := rfl
@[simp] theorem State.setRp_rp (q : Option Staged) (s : State) : (s.setRp q).mu.rp = q := rfl
@[simp] theorem State.setAdmission_ports (a : Admission) (s : State) : (s.setAdmission a).ports = s.ports := rfl
@[simp] theorem State.setAdmission_fabric (a : Admission) (s : State) : (s.setAdmission a).fabric = s.fabric := rfl
@[simp] theorem State.setAdmission_strap (a : Admission) (s : State) : (s.setAdmission a).strap = s.strap := rfl
@[simp] theorem State.setAdmission_tu (a : Admission) (s : State) : (s.setAdmission a).tu = s.tu := rfl
@[simp] theorem State.setAdmission_du (a : Admission) (s : State) : (s.setAdmission a).du = s.du := rfl
@[simp] theorem State.setAdmission_fu (a : Admission) (s : State) : (s.setAdmission a).fu = s.fu := rfl
@[simp] theorem State.setAdmission_mu (a : Admission) (s : State) : (s.setAdmission a).mu = s.mu := rfl
@[simp] theorem State.setAdmission_tb (a : Admission) (s : State) : (s.setAdmission a).tb = s.tb := rfl
@[simp] theorem State.setAdmission_fl (a : Admission) (s : State) : (s.setAdmission a).fl = s.fl := rfl
@[simp] theorem State.setAdmission_phase (a : Admission) (s : State) : (s.setAdmission a).phase = s.phase := rfl
@[simp] theorem State.setAdmission_sent (a : Admission) (s : State) : (s.setAdmission a).sent = s.sent := rfl
@[simp] theorem State.setAdmission_pending (a : Admission) (s : State) : (s.setAdmission a).pending = s.pending := rfl
@[simp] theorem State.setAdmission_mc_owner (a : Admission) (s : State) : (s.setAdmission a).mc.owner = s.mc.owner := rfl
@[simp] theorem State.setAdmission_mc_cache (a : Admission) (s : State) : (s.setAdmission a).mc.cache = s.mc.cache := rfl
@[simp] theorem State.setAdmission_mc_quiesce (a : Admission) (s : State) : (s.setAdmission a).mc.quiesce = s.mc.quiesce := rfl
@[simp] theorem State.setAdmission_mc_cause (a : Admission) (s : State) : (s.setAdmission a).mc.cause = s.mc.cause := rfl
@[simp] theorem State.setAdmission_mc_noticeSeq (a : Admission) (s : State) : (s.setAdmission a).mc.noticeSeq = s.mc.noticeSeq := rfl
@[simp] theorem State.setAdmission_admission (a : Admission) (s : State) : (s.setAdmission a).mc.admission = a := rfl
@[simp] theorem State.setCache_ports (c : Option CacheEntry) (s : State) : (s.setCache c).ports = s.ports := rfl
@[simp] theorem State.setCache_fabric (c : Option CacheEntry) (s : State) : (s.setCache c).fabric = s.fabric := rfl
@[simp] theorem State.setCache_strap (c : Option CacheEntry) (s : State) : (s.setCache c).strap = s.strap := rfl
@[simp] theorem State.setCache_tu (c : Option CacheEntry) (s : State) : (s.setCache c).tu = s.tu := rfl
@[simp] theorem State.setCache_du (c : Option CacheEntry) (s : State) : (s.setCache c).du = s.du := rfl
@[simp] theorem State.setCache_fu (c : Option CacheEntry) (s : State) : (s.setCache c).fu = s.fu := rfl
@[simp] theorem State.setCache_mu (c : Option CacheEntry) (s : State) : (s.setCache c).mu = s.mu := rfl
@[simp] theorem State.setCache_tb (c : Option CacheEntry) (s : State) : (s.setCache c).tb = s.tb := rfl
@[simp] theorem State.setCache_fl (c : Option CacheEntry) (s : State) : (s.setCache c).fl = s.fl := rfl
@[simp] theorem State.setCache_phase (c : Option CacheEntry) (s : State) : (s.setCache c).phase = s.phase := rfl
@[simp] theorem State.setCache_sent (c : Option CacheEntry) (s : State) : (s.setCache c).sent = s.sent := rfl
@[simp] theorem State.setCache_pending (c : Option CacheEntry) (s : State) : (s.setCache c).pending = s.pending := rfl
@[simp] theorem State.setCache_mc_admission (c : Option CacheEntry) (s : State) : (s.setCache c).mc.admission = s.mc.admission := rfl
@[simp] theorem State.setCache_mc_owner (c : Option CacheEntry) (s : State) : (s.setCache c).mc.owner = s.mc.owner := rfl
@[simp] theorem State.setCache_mc_quiesce (c : Option CacheEntry) (s : State) : (s.setCache c).mc.quiesce = s.mc.quiesce := rfl
@[simp] theorem State.setCache_mc_cause (c : Option CacheEntry) (s : State) : (s.setCache c).mc.cause = s.mc.cause := rfl
@[simp] theorem State.setCache_mc_noticeSeq (c : Option CacheEntry) (s : State) : (s.setCache c).mc.noticeSeq = s.mc.noticeSeq := rfl
@[simp] theorem State.setCache_cache (c : Option CacheEntry) (s : State) : (s.setCache c).mc.cache = c := rfl
@[simp] theorem State.emit_ports (x : Sent) (s : State) : (s.emit x).ports = s.ports := rfl
@[simp] theorem State.emit_fabric (x : Sent) (s : State) : (s.emit x).fabric = s.fabric := rfl
@[simp] theorem State.emit_strap (x : Sent) (s : State) : (s.emit x).strap = s.strap := rfl
@[simp] theorem State.emit_tu (x : Sent) (s : State) : (s.emit x).tu = s.tu := rfl
@[simp] theorem State.emit_du (x : Sent) (s : State) : (s.emit x).du = s.du := rfl
@[simp] theorem State.emit_fu (x : Sent) (s : State) : (s.emit x).fu = s.fu := rfl
@[simp] theorem State.emit_mu (x : Sent) (s : State) : (s.emit x).mu = s.mu := rfl
@[simp] theorem State.emit_mc (x : Sent) (s : State) : (s.emit x).mc = s.mc := rfl
@[simp] theorem State.emit_tb (x : Sent) (s : State) : (s.emit x).tb = s.tb := rfl
@[simp] theorem State.emit_fl (x : Sent) (s : State) : (s.emit x).fl = s.fl := rfl
@[simp] theorem State.emit_phase (x : Sent) (s : State) : (s.emit x).phase = s.phase := rfl
@[simp] theorem State.emit_pending (x : Sent) (s : State) : (s.emit x).pending = s.pending := rfl
@[simp] theorem State.emit_sent (x : Sent) (s : State) : (s.emit x).sent = s.sent ++ [x] := rfl

end Sys2Proof.Machine
end

