-- ==== Sys2Proof/Laws/Ops.lean ====
section
/-! SUPPORT. What each shared operation leaves alone, field by field, for simp; and what it writes, once. -/

namespace Sys2Proof.Machine

@[simp] theorem sendClient_ports (p : Port) (k : ClientPacket) (s : State) : (sendClient p k s).ports = s.ports := by
  unfold sendClient
  repeat' split
  all_goals rfl
@[simp] theorem sendClient_fabric (p : Port) (k : ClientPacket) (s : State) : (sendClient p k s).fabric = s.fabric := by
  unfold sendClient
  repeat' split
  all_goals rfl
@[simp] theorem sendClient_strap (p : Port) (k : ClientPacket) (s : State) : (sendClient p k s).strap = s.strap := by
  unfold sendClient
  repeat' split
  all_goals rfl
@[simp] theorem sendClient_tu (p : Port) (k : ClientPacket) (s : State) : (sendClient p k s).tu = s.tu := by
  unfold sendClient
  repeat' split
  all_goals rfl
@[simp] theorem sendClient_du (p : Port) (k : ClientPacket) (s : State) : (sendClient p k s).du = s.du := by
  unfold sendClient
  repeat' split
  all_goals rfl
@[simp] theorem sendClient_fu (p : Port) (k : ClientPacket) (s : State) : (sendClient p k s).fu = s.fu := by
  unfold sendClient
  repeat' split
  all_goals rfl
@[simp] theorem sendClient_mu (p : Port) (k : ClientPacket) (s : State) : (sendClient p k s).mu = s.mu := by
  unfold sendClient
  repeat' split
  all_goals rfl
@[simp] theorem sendClient_mc (p : Port) (k : ClientPacket) (s : State) : (sendClient p k s).mc = s.mc := by
  unfold sendClient
  repeat' split
  all_goals rfl
@[simp] theorem sendClient_tb (p : Port) (k : ClientPacket) (s : State) : (sendClient p k s).tb = s.tb := by
  unfold sendClient
  repeat' split
  all_goals rfl
@[simp] theorem sendClient_fl (p : Port) (k : ClientPacket) (s : State) : (sendClient p k s).fl = s.fl := by
  unfold sendClient
  repeat' split
  all_goals rfl
@[simp] theorem sendClient_phase (p : Port) (k : ClientPacket) (s : State) : (sendClient p k s).phase = s.phase := by
  unfold sendClient
  repeat' split
  all_goals rfl
@[simp] theorem sendClient_pending (p : Port) (k : ClientPacket) (s : State) : (sendClient p k s).pending = s.pending := by
  unfold sendClient
  repeat' split
  all_goals rfl
@[simp] theorem sendFabric_ports (k : FabricPacket) (s : State) : (sendFabric k s).ports = s.ports := by
  unfold sendFabric
  repeat' split
  all_goals rfl
@[simp] theorem sendFabric_fabric (k : FabricPacket) (s : State) : (sendFabric k s).fabric = s.fabric := by
  unfold sendFabric
  repeat' split
  all_goals rfl
@[simp] theorem sendFabric_strap (k : FabricPacket) (s : State) : (sendFabric k s).strap = s.strap := by
  unfold sendFabric
  repeat' split
  all_goals rfl
@[simp] theorem sendFabric_tu (k : FabricPacket) (s : State) : (sendFabric k s).tu = s.tu := by
  unfold sendFabric
  repeat' split
  all_goals rfl
@[simp] theorem sendFabric_du (k : FabricPacket) (s : State) : (sendFabric k s).du = s.du := by
  unfold sendFabric
  repeat' split
  all_goals rfl
@[simp] theorem sendFabric_fu (k : FabricPacket) (s : State) : (sendFabric k s).fu = s.fu := by
  unfold sendFabric
  repeat' split
  all_goals rfl
@[simp] theorem sendFabric_mu (k : FabricPacket) (s : State) : (sendFabric k s).mu = s.mu := by
  unfold sendFabric
  repeat' split
  all_goals rfl
@[simp] theorem sendFabric_mc (k : FabricPacket) (s : State) : (sendFabric k s).mc = s.mc := by
  unfold sendFabric
  repeat' split
  all_goals rfl
@[simp] theorem sendFabric_tb (k : FabricPacket) (s : State) : (sendFabric k s).tb = s.tb := by
  unfold sendFabric
  repeat' split
  all_goals rfl
@[simp] theorem sendFabric_fl (k : FabricPacket) (s : State) : (sendFabric k s).fl = s.fl := by
  unfold sendFabric
  repeat' split
  all_goals rfl
@[simp] theorem sendFabric_phase (k : FabricPacket) (s : State) : (sendFabric k s).phase = s.phase := by
  unfold sendFabric
  repeat' split
  all_goals rfl
@[simp] theorem sendFabric_pending (k : FabricPacket) (s : State) : (sendFabric k s).pending = s.pending := by
  unfold sendFabric
  repeat' split
  all_goals rfl
@[simp] theorem grantCredit_fabric (p : Port) (n : Nat) (s : State) : (grantCredit p n s).fabric = s.fabric := by simp [grantCredit]
@[simp] theorem grantCredit_strap (p : Port) (n : Nat) (s : State) : (grantCredit p n s).strap = s.strap := by simp [grantCredit]
@[simp] theorem grantCredit_tu (p : Port) (n : Nat) (s : State) : (grantCredit p n s).tu = s.tu := by simp [grantCredit]
@[simp] theorem grantCredit_du (p : Port) (n : Nat) (s : State) : (grantCredit p n s).du = s.du := by simp [grantCredit]
@[simp] theorem grantCredit_fu (p : Port) (n : Nat) (s : State) : (grantCredit p n s).fu = s.fu := by simp [grantCredit]
@[simp] theorem grantCredit_mu (p : Port) (n : Nat) (s : State) : (grantCredit p n s).mu = s.mu := by simp [grantCredit]
@[simp] theorem grantCredit_mc (p : Port) (n : Nat) (s : State) : (grantCredit p n s).mc = s.mc := by simp [grantCredit]
@[simp] theorem grantCredit_tb (p : Port) (n : Nat) (s : State) : (grantCredit p n s).tb = s.tb := by simp [grantCredit]
@[simp] theorem grantCredit_fl (p : Port) (n : Nat) (s : State) : (grantCredit p n s).fl = s.fl := by simp [grantCredit]
@[simp] theorem grantCredit_phase (p : Port) (n : Nat) (s : State) : (grantCredit p n s).phase = s.phase := by simp [grantCredit]
@[simp] theorem grantCredit_pending (p : Port) (n : Nat) (s : State) : (grantCredit p n s).pending = s.pending := by simp [grantCredit]
@[simp] theorem sendReply_ports (d q c : Byte) (st : ReplyStatus) (r : List Byte) (s : State) : (sendReply d q c st r s).ports = s.ports := by simp [sendReply]
@[simp] theorem sendReply_fabric (d q c : Byte) (st : ReplyStatus) (r : List Byte) (s : State) : (sendReply d q c st r s).fabric = s.fabric := by simp [sendReply]
@[simp] theorem sendReply_strap (d q c : Byte) (st : ReplyStatus) (r : List Byte) (s : State) : (sendReply d q c st r s).strap = s.strap := by simp [sendReply]
@[simp] theorem sendReply_tu (d q c : Byte) (st : ReplyStatus) (r : List Byte) (s : State) : (sendReply d q c st r s).tu = s.tu := by simp [sendReply]
@[simp] theorem sendReply_du (d q c : Byte) (st : ReplyStatus) (r : List Byte) (s : State) : (sendReply d q c st r s).du = s.du := by simp [sendReply]
@[simp] theorem sendReply_fu (d q c : Byte) (st : ReplyStatus) (r : List Byte) (s : State) : (sendReply d q c st r s).fu = s.fu := by simp [sendReply]
@[simp] theorem sendReply_mu (d q c : Byte) (st : ReplyStatus) (r : List Byte) (s : State) : (sendReply d q c st r s).mu = s.mu := by simp [sendReply]
@[simp] theorem sendReply_mc (d q c : Byte) (st : ReplyStatus) (r : List Byte) (s : State) : (sendReply d q c st r s).mc = s.mc := by simp [sendReply]
@[simp] theorem sendReply_tb (d q c : Byte) (st : ReplyStatus) (r : List Byte) (s : State) : (sendReply d q c st r s).tb = s.tb := by simp [sendReply]
@[simp] theorem sendReply_fl (d q c : Byte) (st : ReplyStatus) (r : List Byte) (s : State) : (sendReply d q c st r s).fl = s.fl := by simp [sendReply]
@[simp] theorem sendReply_phase (d q c : Byte) (st : ReplyStatus) (r : List Byte) (s : State) : (sendReply d q c st r s).phase = s.phase := by simp [sendReply]
@[simp] theorem sendReply_pending (d q c : Byte) (st : ReplyStatus) (r : List Byte) (s : State) : (sendReply d q c st r s).pending = s.pending := by simp [sendReply]
@[simp] theorem sendNotice_ports (l : List Byte) (s : State) : (sendNotice l s).ports = s.ports := by
  unfold sendNotice
  repeat' split
  all_goals rfl
@[simp] theorem sendNotice_fabric (l : List Byte) (s : State) : (sendNotice l s).fabric = s.fabric := by
  unfold sendNotice
  repeat' split
  all_goals rfl
@[simp] theorem sendNotice_strap (l : List Byte) (s : State) : (sendNotice l s).strap = s.strap := by
  unfold sendNotice
  repeat' split
  all_goals rfl
@[simp] theorem sendNotice_tu (l : List Byte) (s : State) : (sendNotice l s).tu = s.tu := by
  unfold sendNotice
  repeat' split
  all_goals rfl
@[simp] theorem sendNotice_du (l : List Byte) (s : State) : (sendNotice l s).du = s.du := by
  unfold sendNotice
  repeat' split
  all_goals rfl
@[simp] theorem sendNotice_fu (l : List Byte) (s : State) : (sendNotice l s).fu = s.fu := by
  unfold sendNotice
  repeat' split
  all_goals rfl
@[simp] theorem sendNotice_mu (l : List Byte) (s : State) : (sendNotice l s).mu = s.mu := by
  unfold sendNotice
  repeat' split
  all_goals rfl
@[simp] theorem sendNotice_tb (l : List Byte) (s : State) : (sendNotice l s).tb = s.tb := by
  unfold sendNotice
  repeat' split
  all_goals rfl
@[simp] theorem sendNotice_fl (l : List Byte) (s : State) : (sendNotice l s).fl = s.fl := by
  unfold sendNotice
  repeat' split
  all_goals rfl
@[simp] theorem sendNotice_phase (l : List Byte) (s : State) : (sendNotice l s).phase = s.phase := by
  unfold sendNotice
  repeat' split
  all_goals rfl
@[simp] theorem sendNotice_pending (l : List Byte) (s : State) : (sendNotice l s).pending = s.pending := by
  unfold sendNotice
  repeat' split
  all_goals rfl
@[simp] theorem sendNotice_mc_admission (l : List Byte) (s : State) : (sendNotice l s).mc.admission = s.mc.admission := by
  unfold sendNotice
  repeat' split
  all_goals rfl
@[simp] theorem sendNotice_mc_owner (l : List Byte) (s : State) : (sendNotice l s).mc.owner = s.mc.owner := by
  unfold sendNotice
  repeat' split
  all_goals rfl
@[simp] theorem sendNotice_mc_cache (l : List Byte) (s : State) : (sendNotice l s).mc.cache = s.mc.cache := by
  unfold sendNotice
  repeat' split
  all_goals rfl
@[simp] theorem sendNotice_mc_quiesce (l : List Byte) (s : State) : (sendNotice l s).mc.quiesce = s.mc.quiesce := by
  unfold sendNotice
  repeat' split
  all_goals rfl
@[simp] theorem sendNotice_mc_cause (l : List Byte) (s : State) : (sendNotice l s).mc.cause = s.mc.cause := by
  unfold sendNotice
  repeat' split
  all_goals rfl
@[simp] theorem logFault_ports (f : FaultRec) (s : State) : (logFault f s).ports = s.ports := by
  unfold logFault
  simp only []
  repeat' split
  all_goals first | rfl | simp
@[simp] theorem logFault_fabric (f : FaultRec) (s : State) : (logFault f s).fabric = s.fabric := by
  unfold logFault
  simp only []
  repeat' split
  all_goals first | rfl | simp
@[simp] theorem logFault_strap (f : FaultRec) (s : State) : (logFault f s).strap = s.strap := by
  unfold logFault
  simp only []
  repeat' split
  all_goals first | rfl | simp
@[simp] theorem logFault_tu (f : FaultRec) (s : State) : (logFault f s).tu = s.tu := by
  unfold logFault
  simp only []
  repeat' split
  all_goals first | rfl | simp
@[simp] theorem logFault_du (f : FaultRec) (s : State) : (logFault f s).du = s.du := by
  unfold logFault
  simp only []
  repeat' split
  all_goals first | rfl | simp
@[simp] theorem logFault_fu (f : FaultRec) (s : State) : (logFault f s).fu = s.fu := by
  unfold logFault
  simp only []
  repeat' split
  all_goals first | rfl | simp
@[simp] theorem logFault_mu (f : FaultRec) (s : State) : (logFault f s).mu = s.mu := by
  unfold logFault
  simp only []
  repeat' split
  all_goals first | rfl | simp
@[simp] theorem logFault_tb (f : FaultRec) (s : State) : (logFault f s).tb = s.tb := by
  unfold logFault
  simp only []
  repeat' split
  all_goals first | rfl | simp
@[simp] theorem logFault_phase (f : FaultRec) (s : State) : (logFault f s).phase = s.phase := by
  unfold logFault
  simp only []
  repeat' split
  all_goals first | rfl | simp
@[simp] theorem logFault_pending (f : FaultRec) (s : State) : (logFault f s).pending = s.pending := by
  unfold logFault
  simp only []
  repeat' split
  all_goals first | rfl | simp
@[simp] theorem logFault_mc_admission (f : FaultRec) (s : State) : (logFault f s).mc.admission = s.mc.admission := by
  unfold logFault
  simp only []
  repeat' split
  all_goals first | rfl | simp
@[simp] theorem logFault_mc_owner (f : FaultRec) (s : State) : (logFault f s).mc.owner = s.mc.owner := by
  unfold logFault
  simp only []
  repeat' split
  all_goals first | rfl | simp
@[simp] theorem logFault_mc_cache (f : FaultRec) (s : State) : (logFault f s).mc.cache = s.mc.cache := by
  unfold logFault
  simp only []
  repeat' split
  all_goals first | rfl | simp
@[simp] theorem logFault_mc_quiesce (f : FaultRec) (s : State) : (logFault f s).mc.quiesce = s.mc.quiesce := by
  unfold logFault
  simp only []
  repeat' split
  all_goals first | rfl | simp
@[simp] theorem logFault_mc_cause (f : FaultRec) (s : State) : (logFault f s).mc.cause = s.mc.cause := by
  unfold logFault
  simp only []
  repeat' split
  all_goals first | rfl | simp
@[simp] theorem endRequest_ports (c : RefusalCode) (r : Request) (s : State) : (endRequest c r s).ports = s.ports := by
  unfold endRequest
  repeat' split
  all_goals first | rfl | simp
@[simp] theorem endRequest_fabric (c : RefusalCode) (r : Request) (s : State) : (endRequest c r s).fabric = s.fabric := by
  unfold endRequest
  repeat' split
  all_goals first | rfl | simp
@[simp] theorem endRequest_strap (c : RefusalCode) (r : Request) (s : State) : (endRequest c r s).strap = s.strap := by
  unfold endRequest
  repeat' split
  all_goals first | rfl | simp
@[simp] theorem endRequest_tu (c : RefusalCode) (r : Request) (s : State) : (endRequest c r s).tu = s.tu := by
  unfold endRequest
  repeat' split
  all_goals first | rfl | simp
@[simp] theorem endRequest_du (c : RefusalCode) (r : Request) (s : State) : (endRequest c r s).du = s.du := by
  unfold endRequest
  repeat' split
  all_goals first | rfl | simp
@[simp] theorem endRequest_fu (c : RefusalCode) (r : Request) (s : State) : (endRequest c r s).fu = s.fu := by
  unfold endRequest
  repeat' split
  all_goals first | rfl | simp
@[simp] theorem endRequest_mu (c : RefusalCode) (r : Request) (s : State) : (endRequest c r s).mu = s.mu := by
  unfold endRequest
  repeat' split
  all_goals first | rfl | simp
@[simp] theorem endRequest_mc (c : RefusalCode) (r : Request) (s : State) : (endRequest c r s).mc = s.mc := by
  unfold endRequest
  repeat' split
  all_goals first | rfl | simp
@[simp] theorem endRequest_tb (c : RefusalCode) (r : Request) (s : State) : (endRequest c r s).tb = s.tb := by
  unfold endRequest
  repeat' split
  all_goals first | rfl | simp
@[simp] theorem endRequest_fl (c : RefusalCode) (r : Request) (s : State) : (endRequest c r s).fl = s.fl := by
  unfold endRequest
  repeat' split
  all_goals first | rfl | simp
@[simp] theorem endRequest_phase (c : RefusalCode) (r : Request) (s : State) : (endRequest c r s).phase = s.phase := by
  unfold endRequest
  repeat' split
  all_goals first | rfl | simp
@[simp] theorem endRequest_pending (c : RefusalCode) (r : Request) (s : State) : (endRequest c r s).pending = s.pending := by
  unfold endRequest
  repeat' split
  all_goals first | rfl | simp
@[simp] theorem reportRefusal_ports (c : RefusalCode) (d : Domain) (r : Request) (s : State) : (reportRefusal c d r s).ports = s.ports := by
  unfold reportRefusal
  repeat' split
  all_goals first | rfl | simp
@[simp] theorem reportRefusal_fabric (c : RefusalCode) (d : Domain) (r : Request) (s : State) : (reportRefusal c d r s).fabric = s.fabric := by
  unfold reportRefusal
  repeat' split
  all_goals first | rfl | simp
@[simp] theorem reportRefusal_strap (c : RefusalCode) (d : Domain) (r : Request) (s : State) : (reportRefusal c d r s).strap = s.strap := by
  unfold reportRefusal
  repeat' split
  all_goals first | rfl | simp
@[simp] theorem reportRefusal_tu (c : RefusalCode) (d : Domain) (r : Request) (s : State) : (reportRefusal c d r s).tu = s.tu := by
  unfold reportRefusal
  repeat' split
  all_goals first | rfl | simp
@[simp] theorem reportRefusal_du (c : RefusalCode) (d : Domain) (r : Request) (s : State) : (reportRefusal c d r s).du = s.du := by
  unfold reportRefusal
  repeat' split
  all_goals first | rfl | simp
@[simp] theorem reportRefusal_fu (c : RefusalCode) (d : Domain) (r : Request) (s : State) : (reportRefusal c d r s).fu = s.fu := by
  unfold reportRefusal
  repeat' split
  all_goals first | rfl | simp
@[simp] theorem reportRefusal_mu (c : RefusalCode) (d : Domain) (r : Request) (s : State) : (reportRefusal c d r s).mu = s.mu := by
  unfold reportRefusal
  repeat' split
  all_goals first | rfl | simp
@[simp] theorem reportRefusal_tb (c : RefusalCode) (d : Domain) (r : Request) (s : State) : (reportRefusal c d r s).tb = s.tb := by
  unfold reportRefusal
  repeat' split
  all_goals first | rfl | simp
@[simp] theorem reportRefusal_phase (c : RefusalCode) (d : Domain) (r : Request) (s : State) : (reportRefusal c d r s).phase = s.phase := by
  unfold reportRefusal
  repeat' split
  all_goals first | rfl | simp
@[simp] theorem reportRefusal_pending (c : RefusalCode) (d : Domain) (r : Request) (s : State) : (reportRefusal c d r s).pending = s.pending := by
  unfold reportRefusal
  repeat' split
  all_goals first | rfl | simp
@[simp] theorem reportRefusal_mc_admission (c : RefusalCode) (d : Domain) (r : Request) (s : State) : (reportRefusal c d r s).mc.admission = s.mc.admission := by
  unfold reportRefusal
  repeat' split
  all_goals first | rfl | simp
@[simp] theorem reportRefusal_mc_owner (c : RefusalCode) (d : Domain) (r : Request) (s : State) : (reportRefusal c d r s).mc.owner = s.mc.owner := by
  unfold reportRefusal
  repeat' split
  all_goals first | rfl | simp
@[simp] theorem reportRefusal_mc_cache (c : RefusalCode) (d : Domain) (r : Request) (s : State) : (reportRefusal c d r s).mc.cache = s.mc.cache := by
  unfold reportRefusal
  repeat' split
  all_goals first | rfl | simp
@[simp] theorem reportRefusal_mc_quiesce (c : RefusalCode) (d : Domain) (r : Request) (s : State) : (reportRefusal c d r s).mc.quiesce = s.mc.quiesce := by
  unfold reportRefusal
  repeat' split
  all_goals first | rfl | simp
@[simp] theorem reportRefusal_mc_cause (c : RefusalCode) (d : Domain) (r : Request) (s : State) : (reportRefusal c d r s).mc.cause = s.mc.cause := by
  unfold reportRefusal
  repeat' split
  all_goals first | rfl | simp
@[simp] theorem refuse_ports (c : RefusalCode) (d : Domain) (r : Request) (s : State) : (refuse c d r s).ports = s.ports := by simp [refuse]
@[simp] theorem refuse_fabric (c : RefusalCode) (d : Domain) (r : Request) (s : State) : (refuse c d r s).fabric = s.fabric := by simp [refuse]
@[simp] theorem refuse_strap (c : RefusalCode) (d : Domain) (r : Request) (s : State) : (refuse c d r s).strap = s.strap := by simp [refuse]
@[simp] theorem refuse_tu (c : RefusalCode) (d : Domain) (r : Request) (s : State) : (refuse c d r s).tu = s.tu := by simp [refuse]
@[simp] theorem refuse_du (c : RefusalCode) (d : Domain) (r : Request) (s : State) : (refuse c d r s).du = s.du := by simp [refuse]
@[simp] theorem refuse_fu (c : RefusalCode) (d : Domain) (r : Request) (s : State) : (refuse c d r s).fu = s.fu := by simp [refuse]
@[simp] theorem refuse_mu (c : RefusalCode) (d : Domain) (r : Request) (s : State) : (refuse c d r s).mu = s.mu := by simp [refuse]
@[simp] theorem refuse_tb (c : RefusalCode) (d : Domain) (r : Request) (s : State) : (refuse c d r s).tb = s.tb := by simp [refuse]
@[simp] theorem refuse_phase (c : RefusalCode) (d : Domain) (r : Request) (s : State) : (refuse c d r s).phase = s.phase := by simp [refuse]
@[simp] theorem refuse_pending (c : RefusalCode) (d : Domain) (r : Request) (s : State) : (refuse c d r s).pending = s.pending := by simp [refuse]
@[simp] theorem refuse_mc_admission (c : RefusalCode) (d : Domain) (r : Request) (s : State) : (refuse c d r s).mc.admission = s.mc.admission := by simp [refuse]
@[simp] theorem refuse_mc_owner (c : RefusalCode) (d : Domain) (r : Request) (s : State) : (refuse c d r s).mc.owner = s.mc.owner := by simp [refuse]
@[simp] theorem refuse_mc_cache (c : RefusalCode) (d : Domain) (r : Request) (s : State) : (refuse c d r s).mc.cache = s.mc.cache := by simp [refuse]
@[simp] theorem refuse_mc_quiesce (c : RefusalCode) (d : Domain) (r : Request) (s : State) : (refuse c d r s).mc.quiesce = s.mc.quiesce := by simp [refuse]
@[simp] theorem refuse_mc_cause (c : RefusalCode) (d : Domain) (r : Request) (s : State) : (refuse c d r s).mc.cause = s.mc.cause := by simp [refuse]
@[simp] theorem setHit_ports (i : EntryIndex) (s : State) : (setHit i s).ports = s.ports := rfl
@[simp] theorem setHit_fabric (i : EntryIndex) (s : State) : (setHit i s).fabric = s.fabric := rfl
@[simp] theorem setHit_strap (i : EntryIndex) (s : State) : (setHit i s).strap = s.strap := rfl
@[simp] theorem setHit_du (i : EntryIndex) (s : State) : (setHit i s).du = s.du := rfl
@[simp] theorem setHit_fu (i : EntryIndex) (s : State) : (setHit i s).fu = s.fu := rfl
@[simp] theorem setHit_mu (i : EntryIndex) (s : State) : (setHit i s).mu = s.mu := rfl
@[simp] theorem setHit_mc (i : EntryIndex) (s : State) : (setHit i s).mc = s.mc := rfl
@[simp] theorem setHit_tb (i : EntryIndex) (s : State) : (setHit i s).tb = s.tb := rfl
@[simp] theorem setHit_fl (i : EntryIndex) (s : State) : (setHit i s).fl = s.fl := rfl
@[simp] theorem setHit_phase (i : EntryIndex) (s : State) : (setHit i s).phase = s.phase := rfl
@[simp] theorem setHit_sent (i : EntryIndex) (s : State) : (setHit i s).sent = s.sent := rfl
@[simp] theorem setHit_pending (i : EntryIndex) (s : State) : (setHit i s).pending = s.pending := rfl
@[simp] theorem setHit_tu_clock (i : EntryIndex) (s : State) : (setHit i s).tu.clock = s.tu.clock := rfl
@[simp] theorem markStale_fabric (g : Staged → Bool) (s : State) : (markStale g s).fabric = s.fabric := rfl
@[simp] theorem markStale_strap (g : Staged → Bool) (s : State) : (markStale g s).strap = s.strap := rfl
@[simp] theorem markStale_tu (g : Staged → Bool) (s : State) : (markStale g s).tu = s.tu := rfl
@[simp] theorem markStale_du (g : Staged → Bool) (s : State) : (markStale g s).du = s.du := rfl
@[simp] theorem markStale_fu (g : Staged → Bool) (s : State) : (markStale g s).fu = s.fu := rfl
@[simp] theorem markStale_mc (g : Staged → Bool) (s : State) : (markStale g s).mc = s.mc := rfl
@[simp] theorem markStale_tb (g : Staged → Bool) (s : State) : (markStale g s).tb = s.tb := rfl
@[simp] theorem markStale_fl (g : Staged → Bool) (s : State) : (markStale g s).fl = s.fl := rfl
@[simp] theorem markStale_phase (g : Staged → Bool) (s : State) : (markStale g s).phase = s.phase := rfl
@[simp] theorem markStale_sent (g : Staged → Bool) (s : State) : (markStale g s).sent = s.sent := rfl
@[simp] theorem markStale_pending (g : Staged → Bool) (s : State) : (markStale g s).pending = s.pending := rfl
@[simp] theorem markStale_mu_records (g : Staged → Bool) (s : State) : (markStale g s).mu.records = s.mu.records := rfl
@[simp] theorem markStale_mu_held (g : Staged → Bool) (s : State) : (markStale g s).mu.held = s.mu.held := rfl
@[simp] theorem markStale_mu_ticket (g : Staged → Bool) (s : State) : (markStale g s).mu.ticket = s.mu.ticket := rfl
@[simp] theorem joinMiss_ports (r : Request) (d : Domain) (t : Half) (s : State) : (joinMiss r d t s).ports = s.ports := rfl
@[simp] theorem joinMiss_fabric (r : Request) (d : Domain) (t : Half) (s : State) : (joinMiss r d t s).fabric = s.fabric := rfl
@[simp] theorem joinMiss_strap (r : Request) (d : Domain) (t : Half) (s : State) : (joinMiss r d t s).strap = s.strap := rfl
@[simp] theorem joinMiss_tu (r : Request) (d : Domain) (t : Half) (s : State) : (joinMiss r d t s).tu = s.tu := rfl
@[simp] theorem joinMiss_du (r : Request) (d : Domain) (t : Half) (s : State) : (joinMiss r d t s).du = s.du := rfl
@[simp] theorem joinMiss_fu (r : Request) (d : Domain) (t : Half) (s : State) : (joinMiss r d t s).fu = s.fu := rfl
@[simp] theorem joinMiss_mc (r : Request) (d : Domain) (t : Half) (s : State) : (joinMiss r d t s).mc = s.mc := rfl
@[simp] theorem joinMiss_tb (r : Request) (d : Domain) (t : Half) (s : State) : (joinMiss r d t s).tb = s.tb := rfl
@[simp] theorem joinMiss_fl (r : Request) (d : Domain) (t : Half) (s : State) : (joinMiss r d t s).fl = s.fl := rfl
@[simp] theorem joinMiss_phase (r : Request) (d : Domain) (t : Half) (s : State) : (joinMiss r d t s).phase = s.phase := rfl
@[simp] theorem joinMiss_sent (r : Request) (d : Domain) (t : Half) (s : State) : (joinMiss r d t s).sent = s.sent := rfl
@[simp] theorem joinMiss_pending (r : Request) (d : Domain) (t : Half) (s : State) : (joinMiss r d t s).pending = s.pending := rfl
@[simp] theorem joinMiss_mu_rp (r : Request) (d : Domain) (t : Half) (s : State) : (joinMiss r d t s).mu.rp = s.mu.rp := rfl
@[simp] theorem joinMiss_mu_ticket (r : Request) (d : Domain) (t : Half) (s : State) : (joinMiss r d t s).mu.ticket = s.mu.ticket := rfl
@[simp] theorem createMiss_ports (r : Request) (d : Domain) (s : State) : (createMiss r d s).ports = s.ports := by simp [createMiss]
@[simp] theorem createMiss_fabric (r : Request) (d : Domain) (s : State) : (createMiss r d s).fabric = s.fabric := by simp [createMiss]
@[simp] theorem createMiss_strap (r : Request) (d : Domain) (s : State) : (createMiss r d s).strap = s.strap := by simp [createMiss]
@[simp] theorem createMiss_tu (r : Request) (d : Domain) (s : State) : (createMiss r d s).tu = s.tu := by simp [createMiss]
@[simp] theorem createMiss_du (r : Request) (d : Domain) (s : State) : (createMiss r d s).du = s.du := by simp [createMiss]
@[simp] theorem createMiss_fu (r : Request) (d : Domain) (s : State) : (createMiss r d s).fu = s.fu := by simp [createMiss]
@[simp] theorem createMiss_tb (r : Request) (d : Domain) (s : State) : (createMiss r d s).tb = s.tb := by simp [createMiss]
@[simp] theorem createMiss_fl (r : Request) (d : Domain) (s : State) : (createMiss r d s).fl = s.fl := by simp [createMiss]
@[simp] theorem createMiss_phase (r : Request) (d : Domain) (s : State) : (createMiss r d s).phase = s.phase := by simp [createMiss]
@[simp] theorem createMiss_pending (r : Request) (d : Domain) (s : State) : (createMiss r d s).pending = s.pending := by simp [createMiss]
@[simp] theorem createMiss_mu_rp (r : Request) (d : Domain) (s : State) : (createMiss r d s).mu.rp = s.mu.rp := by simp [createMiss]
@[simp] theorem createMiss_mc_admission (r : Request) (d : Domain) (s : State) : (createMiss r d s).mc.admission = s.mc.admission := by simp [createMiss]
@[simp] theorem createMiss_mc_owner (r : Request) (d : Domain) (s : State) : (createMiss r d s).mc.owner = s.mc.owner := by simp [createMiss]
@[simp] theorem createMiss_mc_cache (r : Request) (d : Domain) (s : State) : (createMiss r d s).mc.cache = s.mc.cache := by simp [createMiss]
@[simp] theorem createMiss_mc_quiesce (r : Request) (d : Domain) (s : State) : (createMiss r d s).mc.quiesce = s.mc.quiesce := by simp [createMiss]
@[simp] theorem createMiss_mc_cause (r : Request) (d : Domain) (s : State) : (createMiss r d s).mc.cause = s.mc.cause := by simp [createMiss]
@[simp] theorem takeMiss_ports (r : Request) (d : Domain) (s : State) : (takeMiss r d s).ports = s.ports := by
  unfold takeMiss
  repeat' split
  all_goals first | rfl | simp
@[simp] theorem takeMiss_fabric (r : Request) (d : Domain) (s : State) : (takeMiss r d s).fabric = s.fabric := by
  unfold takeMiss
  repeat' split
  all_goals first | rfl | simp
@[simp] theorem takeMiss_strap (r : Request) (d : Domain) (s : State) : (takeMiss r d s).strap = s.strap := by
  unfold takeMiss
  repeat' split
  all_goals first | rfl | simp
@[simp] theorem takeMiss_tu (r : Request) (d : Domain) (s : State) : (takeMiss r d s).tu = s.tu := by
  unfold takeMiss
  repeat' split
  all_goals first | rfl | simp
@[simp] theorem takeMiss_du (r : Request) (d : Domain) (s : State) : (takeMiss r d s).du = s.du := by
  unfold takeMiss
  repeat' split
  all_goals first | rfl | simp
@[simp] theorem takeMiss_fu (r : Request) (d : Domain) (s : State) : (takeMiss r d s).fu = s.fu := by
  unfold takeMiss
  repeat' split
  all_goals first | rfl | simp
@[simp] theorem takeMiss_tb (r : Request) (d : Domain) (s : State) : (takeMiss r d s).tb = s.tb := by
  unfold takeMiss
  repeat' split
  all_goals first | rfl | simp
@[simp] theorem takeMiss_phase (r : Request) (d : Domain) (s : State) : (takeMiss r d s).phase = s.phase := by
  unfold takeMiss
  repeat' split
  all_goals first | rfl | simp
@[simp] theorem takeMiss_pending (r : Request) (d : Domain) (s : State) : (takeMiss r d s).pending = s.pending := by
  unfold takeMiss
  repeat' split
  all_goals first | rfl | simp
@[simp] theorem takeMiss_mu_rp (r : Request) (d : Domain) (s : State) : (takeMiss r d s).mu.rp = s.mu.rp := by
  unfold takeMiss
  repeat' split
  all_goals first | rfl | simp
@[simp] theorem takeMiss_mc_admission (r : Request) (d : Domain) (s : State) : (takeMiss r d s).mc.admission = s.mc.admission := by
  unfold takeMiss
  repeat' split
  all_goals first | rfl | simp
@[simp] theorem takeMiss_mc_owner (r : Request) (d : Domain) (s : State) : (takeMiss r d s).mc.owner = s.mc.owner := by
  unfold takeMiss
  repeat' split
  all_goals first | rfl | simp
@[simp] theorem takeMiss_mc_cache (r : Request) (d : Domain) (s : State) : (takeMiss r d s).mc.cache = s.mc.cache := by
  unfold takeMiss
  repeat' split
  all_goals first | rfl | simp
@[simp] theorem takeMiss_mc_quiesce (r : Request) (d : Domain) (s : State) : (takeMiss r d s).mc.quiesce = s.mc.quiesce := by
  unfold takeMiss
  repeat' split
  all_goals first | rfl | simp
@[simp] theorem takeMiss_mc_cause (r : Request) (d : Domain) (s : State) : (takeMiss r d s).mc.cause = s.mc.cause := by
  unfold takeMiss
  repeat' split
  all_goals first | rfl | simp
@[simp] theorem freeRecord_ports (t : Half) (s : State) : (freeRecord t s).ports = s.ports := rfl
@[simp] theorem freeRecord_fabric (t : Half) (s : State) : (freeRecord t s).fabric = s.fabric := rfl
@[simp] theorem freeRecord_strap (t : Half) (s : State) : (freeRecord t s).strap = s.strap := rfl
@[simp] theorem freeRecord_tu (t : Half) (s : State) : (freeRecord t s).tu = s.tu := rfl
@[simp] theorem freeRecord_du (t : Half) (s : State) : (freeRecord t s).du = s.du := rfl
@[simp] theorem freeRecord_fu (t : Half) (s : State) : (freeRecord t s).fu = s.fu := rfl
@[simp] theorem freeRecord_mc (t : Half) (s : State) : (freeRecord t s).mc = s.mc := rfl
@[simp] theorem freeRecord_tb (t : Half) (s : State) : (freeRecord t s).tb = s.tb := rfl
@[simp] theorem freeRecord_fl (t : Half) (s : State) : (freeRecord t s).fl = s.fl := rfl
@[simp] theorem freeRecord_phase (t : Half) (s : State) : (freeRecord t s).phase = s.phase := rfl
@[simp] theorem freeRecord_sent (t : Half) (s : State) : (freeRecord t s).sent = s.sent := rfl
@[simp] theorem freeRecord_pending (t : Half) (s : State) : (freeRecord t s).pending = s.pending := rfl
@[simp] theorem freeRecord_mu_rp (t : Half) (s : State) : (freeRecord t s).mu.rp = s.mu.rp := rfl
@[simp] theorem freeRecord_mu_ticket (t : Half) (s : State) : (freeRecord t s).mu.ticket = s.mu.ticket := rfl
/-- What every operation of a fold leaves alone, the fold leaves alone. -/
theorem foldl_keeps {α β : Type} (π : State → α) (f : State → β → State) (h : ∀ s x, π (f s x) = π s) (l : List β)
    (s : State) : π (l.foldl f s) = π s := by
  induction l generalizing s with
  | nil => rfl
  | cons x l ih => simp [ih, h]
@[simp] theorem denyRecord_ports (m : MissRec) (s : State) : (denyRecord m s).ports = s.ports := by
  simp only [denyRecord, freeRecord_ports]
  exact foldl_keeps (·.ports) _ (by intros; simp) _ _
@[simp] theorem denyRecord_fabric (m : MissRec) (s : State) : (denyRecord m s).fabric = s.fabric := by
  simp only [denyRecord, freeRecord_fabric]
  exact foldl_keeps (·.fabric) _ (by intros; simp) _ _
@[simp] theorem denyRecord_strap (m : MissRec) (s : State) : (denyRecord m s).strap = s.strap := by
  simp only [denyRecord, freeRecord_strap]
  exact foldl_keeps (·.strap) _ (by intros; simp) _ _
@[simp] theorem denyRecord_tu (m : MissRec) (s : State) : (denyRecord m s).tu = s.tu := by
  simp only [denyRecord, freeRecord_tu]
  exact foldl_keeps (·.tu) _ (by intros; simp) _ _
@[simp] theorem denyRecord_du (m : MissRec) (s : State) : (denyRecord m s).du = s.du := by
  simp only [denyRecord, freeRecord_du]
  exact foldl_keeps (·.du) _ (by intros; simp) _ _
@[simp] theorem denyRecord_fu (m : MissRec) (s : State) : (denyRecord m s).fu = s.fu := by
  simp only [denyRecord, freeRecord_fu]
  exact foldl_keeps (·.fu) _ (by intros; simp) _ _
@[simp] theorem denyRecord_tb (m : MissRec) (s : State) : (denyRecord m s).tb = s.tb := by
  simp only [denyRecord, freeRecord_tb]
  exact foldl_keeps (·.tb) _ (by intros; simp) _ _
@[simp] theorem denyRecord_phase (m : MissRec) (s : State) : (denyRecord m s).phase = s.phase := by
  simp only [denyRecord, freeRecord_phase]
  exact foldl_keeps (·.phase) _ (by intros; simp) _ _
@[simp] theorem denyRecord_pending (m : MissRec) (s : State) : (denyRecord m s).pending = s.pending := by
  simp only [denyRecord, freeRecord_pending]
  exact foldl_keeps (·.pending) _ (by intros; simp) _ _
@[simp] theorem denyRecord_mu_rp (m : MissRec) (s : State) : (denyRecord m s).mu.rp = s.mu.rp := by
  simp only [denyRecord, freeRecord_mu_rp]
  exact foldl_keeps (·.mu.rp) _ (by intros; simp) _ _
@[simp] theorem denyRecord_mu_ticket (m : MissRec) (s : State) : (denyRecord m s).mu.ticket = s.mu.ticket := by
  simp only [denyRecord, freeRecord_mu_ticket]
  exact foldl_keeps (·.mu.ticket) _ (by intros; simp) _ _
@[simp] theorem denyRecord_mc_admission (m : MissRec) (s : State) : (denyRecord m s).mc.admission = s.mc.admission := by
  simp only [denyRecord, freeRecord_mc]
  exact foldl_keeps (·.mc.admission) _ (by intros; simp) _ _
@[simp] theorem denyRecord_mc_owner (m : MissRec) (s : State) : (denyRecord m s).mc.owner = s.mc.owner := by
  simp only [denyRecord, freeRecord_mc]
  exact foldl_keeps (·.mc.owner) _ (by intros; simp) _ _
@[simp] theorem denyRecord_mc_cache (m : MissRec) (s : State) : (denyRecord m s).mc.cache = s.mc.cache := by
  simp only [denyRecord, freeRecord_mc]
  exact foldl_keeps (·.mc.cache) _ (by intros; simp) _ _
@[simp] theorem denyRecord_mc_quiesce (m : MissRec) (s : State) : (denyRecord m s).mc.quiesce = s.mc.quiesce := by
  simp only [denyRecord, freeRecord_mc]
  exact foldl_keeps (·.mc.quiesce) _ (by intros; simp) _ _
@[simp] theorem denyRecord_mc_cause (m : MissRec) (s : State) : (denyRecord m s).mc.cause = s.mc.cause := by
  simp only [denyRecord, freeRecord_mc]
  exact foldl_keeps (·.mc.cause) _ (by intros; simp) _ _
@[simp] theorem retryRecord_ports (t : Half) (s : State) : (retryRecord t s).ports = s.ports := rfl
@[simp] theorem retryRecord_fabric (t : Half) (s : State) : (retryRecord t s).fabric = s.fabric := rfl
@[simp] theorem retryRecord_strap (t : Half) (s : State) : (retryRecord t s).strap = s.strap := rfl
@[simp] theorem retryRecord_tu (t : Half) (s : State) : (retryRecord t s).tu = s.tu := rfl
@[simp] theorem retryRecord_du (t : Half) (s : State) : (retryRecord t s).du = s.du := rfl
@[simp] theorem retryRecord_fu (t : Half) (s : State) : (retryRecord t s).fu = s.fu := rfl
@[simp] theorem retryRecord_mc (t : Half) (s : State) : (retryRecord t s).mc = s.mc := rfl
@[simp] theorem retryRecord_tb (t : Half) (s : State) : (retryRecord t s).tb = s.tb := rfl
@[simp] theorem retryRecord_fl (t : Half) (s : State) : (retryRecord t s).fl = s.fl := rfl
@[simp] theorem retryRecord_phase (t : Half) (s : State) : (retryRecord t s).phase = s.phase := rfl
@[simp] theorem retryRecord_sent (t : Half) (s : State) : (retryRecord t s).sent = s.sent := rfl
@[simp] theorem retryRecord_pending (t : Half) (s : State) : (retryRecord t s).pending = s.pending := rfl
@[simp] theorem retryRecord_mu_rp (t : Half) (s : State) : (retryRecord t s).mu.rp = s.mu.rp := rfl
@[simp] theorem retryRecord_mu_ticket (t : Half) (s : State) : (retryRecord t s).mu.ticket = s.mu.ticket := rfl
@[simp] theorem popReplay_ports (s : State) : (popReplay s).ports = s.ports := rfl
@[simp] theorem popReplay_fabric (s : State) : (popReplay s).fabric = s.fabric := rfl
@[simp] theorem popReplay_strap (s : State) : (popReplay s).strap = s.strap := rfl
@[simp] theorem popReplay_tu (s : State) : (popReplay s).tu = s.tu := rfl
@[simp] theorem popReplay_du (s : State) : (popReplay s).du = s.du := rfl
@[simp] theorem popReplay_fu (s : State) : (popReplay s).fu = s.fu := rfl
@[simp] theorem popReplay_mc (s : State) : (popReplay s).mc = s.mc := rfl
@[simp] theorem popReplay_tb (s : State) : (popReplay s).tb = s.tb := rfl
@[simp] theorem popReplay_fl (s : State) : (popReplay s).fl = s.fl := rfl
@[simp] theorem popReplay_phase (s : State) : (popReplay s).phase = s.phase := rfl
@[simp] theorem popReplay_sent (s : State) : (popReplay s).sent = s.sent := rfl
@[simp] theorem popReplay_pending (s : State) : (popReplay s).pending = s.pending := rfl
@[simp] theorem popReplay_mu_records (s : State) : (popReplay s).mu.records = s.mu.records := rfl
@[simp] theorem popReplay_mu_ticket (s : State) : (popReplay s).mu.ticket = s.mu.ticket := rfl
@[simp] theorem deferredReply_ports (n : Answer) (d q c : Byte) (st : ReplyStatus) (r : List Byte) (s : State) : (deferredReply n d q c st r s).ports = s.ports := by
  unfold deferredReply
  simp only []
  repeat' split
  all_goals first | rfl | simp
@[simp] theorem deferredReply_fabric (n : Answer) (d q c : Byte) (st : ReplyStatus) (r : List Byte) (s : State) : (deferredReply n d q c st r s).fabric = s.fabric := by
  unfold deferredReply
  simp only []
  repeat' split
  all_goals first | rfl | simp
@[simp] theorem deferredReply_strap (n : Answer) (d q c : Byte) (st : ReplyStatus) (r : List Byte) (s : State) : (deferredReply n d q c st r s).strap = s.strap := by
  unfold deferredReply
  simp only []
  repeat' split
  all_goals first | rfl | simp
@[simp] theorem deferredReply_tu (n : Answer) (d q c : Byte) (st : ReplyStatus) (r : List Byte) (s : State) : (deferredReply n d q c st r s).tu = s.tu := by
  unfold deferredReply
  simp only []
  repeat' split
  all_goals first | rfl | simp
@[simp] theorem deferredReply_du (n : Answer) (d q c : Byte) (st : ReplyStatus) (r : List Byte) (s : State) : (deferredReply n d q c st r s).du = s.du := by
  unfold deferredReply
  simp only []
  repeat' split
  all_goals first | rfl | simp
@[simp] theorem deferredReply_fu (n : Answer) (d q c : Byte) (st : ReplyStatus) (r : List Byte) (s : State) : (deferredReply n d q c st r s).fu = s.fu := by
  unfold deferredReply
  simp only []
  repeat' split
  all_goals first | rfl | simp
@[simp] theorem deferredReply_mu (n : Answer) (d q c : Byte) (st : ReplyStatus) (r : List Byte) (s : State) : (deferredReply n d q c st r s).mu = s.mu := by
  unfold deferredReply
  simp only []
  repeat' split
  all_goals first | rfl | simp
@[simp] theorem deferredReply_tb (n : Answer) (d q c : Byte) (st : ReplyStatus) (r : List Byte) (s : State) : (deferredReply n d q c st r s).tb = s.tb := by
  unfold deferredReply
  simp only []
  repeat' split
  all_goals first | rfl | simp
@[simp] theorem deferredReply_fl (n : Answer) (d q c : Byte) (st : ReplyStatus) (r : List Byte) (s : State) : (deferredReply n d q c st r s).fl = s.fl := by
  unfold deferredReply
  simp only []
  repeat' split
  all_goals first | rfl | simp
@[simp] theorem deferredReply_phase (n : Answer) (d q c : Byte) (st : ReplyStatus) (r : List Byte) (s : State) : (deferredReply n d q c st r s).phase = s.phase := by
  unfold deferredReply
  simp only []
  repeat' split
  all_goals first | rfl | simp
@[simp] theorem deferredReply_pending (n : Answer) (d q c : Byte) (st : ReplyStatus) (r : List Byte) (s : State) : (deferredReply n d q c st r s).pending = s.pending := by
  unfold deferredReply
  simp only []
  repeat' split
  all_goals first | rfl | simp
@[simp] theorem deferredReply_mc_admission (n : Answer) (d q c : Byte) (st : ReplyStatus) (r : List Byte) (s : State) : (deferredReply n d q c st r s).mc.admission = s.mc.admission := by
  unfold deferredReply
  simp only []
  repeat' split
  all_goals first | rfl | simp
@[simp] theorem deferredReply_mc_owner (n : Answer) (d q c : Byte) (st : ReplyStatus) (r : List Byte) (s : State) : (deferredReply n d q c st r s).mc.owner = s.mc.owner := by
  unfold deferredReply
  simp only []
  repeat' split
  all_goals first | rfl | simp
@[simp] theorem deferredReply_mc_quiesce (n : Answer) (d q c : Byte) (st : ReplyStatus) (r : List Byte) (s : State) : (deferredReply n d q c st r s).mc.quiesce = s.mc.quiesce := by
  unfold deferredReply
  simp only []
  repeat' split
  all_goals first | rfl | simp
@[simp] theorem deferredReply_mc_cause (n : Answer) (d q c : Byte) (st : ReplyStatus) (r : List Byte) (s : State) : (deferredReply n d q c st r s).mc.cause = s.mc.cause := by
  unfold deferredReply
  simp only []
  repeat' split
  all_goals first | rfl | simp
@[simp] theorem deferredReply_mc_noticeSeq (n : Answer) (d q c : Byte) (st : ReplyStatus) (r : List Byte) (s : State) : (deferredReply n d q c st r s).mc.noticeSeq = s.mc.noticeSeq := by
  unfold deferredReply
  simp only []
  repeat' split
  all_goals first | rfl | simp
@[simp] theorem replyFence_ports (f : FenceRec) (s : State) : (replyFence f s).ports = s.ports := by simp [replyFence]
@[simp] theorem replyFence_fabric (f : FenceRec) (s : State) : (replyFence f s).fabric = s.fabric := by simp [replyFence]
@[simp] theorem replyFence_strap (f : FenceRec) (s : State) : (replyFence f s).strap = s.strap := by simp [replyFence]
@[simp] theorem replyFence_tu (f : FenceRec) (s : State) : (replyFence f s).tu = s.tu := by simp [replyFence]
@[simp] theorem replyFence_du (f : FenceRec) (s : State) : (replyFence f s).du = s.du := by simp [replyFence]
@[simp] theorem replyFence_fu (f : FenceRec) (s : State) : (replyFence f s).fu = s.fu := by simp [replyFence]
@[simp] theorem replyFence_mu (f : FenceRec) (s : State) : (replyFence f s).mu = s.mu := by simp [replyFence]
@[simp] theorem replyFence_tb (f : FenceRec) (s : State) : (replyFence f s).tb = s.tb := by simp [replyFence]
@[simp] theorem replyFence_fl (f : FenceRec) (s : State) : (replyFence f s).fl = s.fl := by simp [replyFence]
@[simp] theorem replyFence_phase (f : FenceRec) (s : State) : (replyFence f s).phase = s.phase := by simp [replyFence]
@[simp] theorem replyFence_pending (f : FenceRec) (s : State) : (replyFence f s).pending = s.pending := by simp [replyFence]
@[simp] theorem replyFence_mc_admission (f : FenceRec) (s : State) : (replyFence f s).mc.admission = s.mc.admission := by simp [replyFence]
@[simp] theorem replyFence_mc_owner (f : FenceRec) (s : State) : (replyFence f s).mc.owner = s.mc.owner := by simp [replyFence]
@[simp] theorem replyFence_mc_quiesce (f : FenceRec) (s : State) : (replyFence f s).mc.quiesce = s.mc.quiesce := by simp [replyFence]
@[simp] theorem replyFence_mc_cause (f : FenceRec) (s : State) : (replyFence f s).mc.cause = s.mc.cause := by simp [replyFence]
@[simp] theorem replyFence_mc_noticeSeq (f : FenceRec) (s : State) : (replyFence f s).mc.noticeSeq = s.mc.noticeSeq := by simp [replyFence]
@[simp] theorem completeOldestFence_ports (s : State) : (completeOldestFence s).ports = s.ports := by
  unfold completeOldestFence
  repeat' split
  all_goals first | rfl | simp
@[simp] theorem completeOldestFence_fabric (s : State) : (completeOldestFence s).fabric = s.fabric := by
  unfold completeOldestFence
  repeat' split
  all_goals first | rfl | simp
@[simp] theorem completeOldestFence_strap (s : State) : (completeOldestFence s).strap = s.strap := by
  unfold completeOldestFence
  repeat' split
  all_goals first | rfl | simp
@[simp] theorem completeOldestFence_tu (s : State) : (completeOldestFence s).tu = s.tu := by
  unfold completeOldestFence
  repeat' split
  all_goals first | rfl | simp
@[simp] theorem completeOldestFence_du (s : State) : (completeOldestFence s).du = s.du := by
  unfold completeOldestFence
  repeat' split
  all_goals first | rfl | simp
@[simp] theorem completeOldestFence_mu (s : State) : (completeOldestFence s).mu = s.mu := by
  unfold completeOldestFence
  repeat' split
  all_goals first | rfl | simp
@[simp] theorem completeOldestFence_tb (s : State) : (completeOldestFence s).tb = s.tb := by
  unfold completeOldestFence
  repeat' split
  all_goals first | rfl | simp
@[simp] theorem completeOldestFence_fl (s : State) : (completeOldestFence s).fl = s.fl := by
  unfold completeOldestFence
  repeat' split
  all_goals first | rfl | simp
@[simp] theorem completeOldestFence_phase (s : State) : (completeOldestFence s).phase = s.phase := by
  unfold completeOldestFence
  repeat' split
  all_goals first | rfl | simp
@[simp] theorem completeOldestFence_pending (s : State) : (completeOldestFence s).pending = s.pending := by
  unfold completeOldestFence
  repeat' split
  all_goals first | rfl | simp
@[simp] theorem completeOldestFence_mc_admission (s : State) : (completeOldestFence s).mc.admission = s.mc.admission := by
  unfold completeOldestFence
  repeat' split
  all_goals first | rfl | simp
@[simp] theorem completeOldestFence_mc_owner (s : State) : (completeOldestFence s).mc.owner = s.mc.owner := by
  unfold completeOldestFence
  repeat' split
  all_goals first | rfl | simp
@[simp] theorem completeOldestFence_mc_quiesce (s : State) : (completeOldestFence s).mc.quiesce = s.mc.quiesce := by
  unfold completeOldestFence
  repeat' split
  all_goals first | rfl | simp
@[simp] theorem completeOldestFence_mc_cause (s : State) : (completeOldestFence s).mc.cause = s.mc.cause := by
  unfold completeOldestFence
  repeat' split
  all_goals first | rfl | simp
@[simp] theorem completeOldestFence_mc_noticeSeq (s : State) : (completeOldestFence s).mc.noticeSeq = s.mc.noticeSeq := by
  unfold completeOldestFence
  repeat' split
  all_goals first | rfl | simp
@[simp] theorem completeOldestFence_fu_ort (s : State) : (completeOldestFence s).fu.ort = s.fu.ort := by
  unfold completeOldestFence
  repeat' split
  all_goals first | rfl | simp
@[simp] theorem completeOldestFence_fu_pointer (s : State) : (completeOldestFence s).fu.pointer = s.fu.pointer := by
  unfold completeOldestFence
  repeat' split
  all_goals first | rfl | simp
@[simp] theorem completeOldestFence_fu_nextFence (s : State) : (completeOldestFence s).fu.nextFence = s.fu.nextFence := by
  unfold completeOldestFence
  repeat' split
  all_goals first | rfl | simp
@[simp] theorem completeDueFences_ports (s : State) : (completeDueFences s).ports = s.ports := foldl_keeps (·.ports) _ (by intros; simp) _ _
@[simp] theorem completeDueFences_fabric (s : State) : (completeDueFences s).fabric = s.fabric := foldl_keeps (·.fabric) _ (by intros; simp) _ _
@[simp] theorem completeDueFences_strap (s : State) : (completeDueFences s).strap = s.strap := foldl_keeps (·.strap) _ (by intros; simp) _ _
@[simp] theorem completeDueFences_tu (s : State) : (completeDueFences s).tu = s.tu := foldl_keeps (·.tu) _ (by intros; simp) _ _
@[simp] theorem completeDueFences_du (s : State) : (completeDueFences s).du = s.du := foldl_keeps (·.du) _ (by intros; simp) _ _
@[simp] theorem completeDueFences_mu (s : State) : (completeDueFences s).mu = s.mu := foldl_keeps (·.mu) _ (by intros; simp) _ _
@[simp] theorem completeDueFences_tb (s : State) : (completeDueFences s).tb = s.tb := foldl_keeps (·.tb) _ (by intros; simp) _ _
@[simp] theorem completeDueFences_fl (s : State) : (completeDueFences s).fl = s.fl := foldl_keeps (·.fl) _ (by intros; simp) _ _
@[simp] theorem completeDueFences_phase (s : State) : (completeDueFences s).phase = s.phase := foldl_keeps (·.phase) _ (by intros; simp) _ _
@[simp] theorem completeDueFences_pending (s : State) : (completeDueFences s).pending = s.pending := foldl_keeps (·.pending) _ (by intros; simp) _ _
@[simp] theorem completeDueFences_mc_admission (s : State) : (completeDueFences s).mc.admission = s.mc.admission := foldl_keeps (·.mc.admission) _ (by intros; simp) _ _
@[simp] theorem completeDueFences_mc_owner (s : State) : (completeDueFences s).mc.owner = s.mc.owner := foldl_keeps (·.mc.owner) _ (by intros; simp) _ _
@[simp] theorem completeDueFences_mc_quiesce (s : State) : (completeDueFences s).mc.quiesce = s.mc.quiesce := foldl_keeps (·.mc.quiesce) _ (by intros; simp) _ _
@[simp] theorem completeDueFences_mc_cause (s : State) : (completeDueFences s).mc.cause = s.mc.cause := foldl_keeps (·.mc.cause) _ (by intros; simp) _ _
@[simp] theorem completeDueFences_mc_noticeSeq (s : State) : (completeDueFences s).mc.noticeSeq = s.mc.noticeSeq := foldl_keeps (·.mc.noticeSeq) _ (by intros; simp) _ _
@[simp] theorem completeDueFences_fu_ort (s : State) : (completeDueFences s).fu.ort = s.fu.ort := foldl_keeps (·.fu.ort) _ (by intros; simp) _ _
@[simp] theorem completeDueFences_fu_pointer (s : State) : (completeDueFences s).fu.pointer = s.fu.pointer := foldl_keeps (·.fu.pointer) _ (by intros; simp) _ _
@[simp] theorem completeDueFences_fu_nextFence (s : State) : (completeDueFences s).fu.nextFence = s.fu.nextFence := foldl_keeps (·.fu.nextFence) _ (by intros; simp) _ _
@[simp] theorem freeSlot_ports (i : SlotIndex) (s : State) : (freeSlot i s).ports = s.ports := rfl
@[simp] theorem freeSlot_fabric (i : SlotIndex) (s : State) : (freeSlot i s).fabric = s.fabric := rfl
@[simp] theorem freeSlot_strap (i : SlotIndex) (s : State) : (freeSlot i s).strap = s.strap := rfl
@[simp] theorem freeSlot_tu (i : SlotIndex) (s : State) : (freeSlot i s).tu = s.tu := rfl
@[simp] theorem freeSlot_du (i : SlotIndex) (s : State) : (freeSlot i s).du = s.du := rfl
@[simp] theorem freeSlot_mu (i : SlotIndex) (s : State) : (freeSlot i s).mu = s.mu := rfl
@[simp] theorem freeSlot_mc (i : SlotIndex) (s : State) : (freeSlot i s).mc = s.mc := rfl
@[simp] theorem freeSlot_tb (i : SlotIndex) (s : State) : (freeSlot i s).tb = s.tb := rfl
@[simp] theorem freeSlot_fl (i : SlotIndex) (s : State) : (freeSlot i s).fl = s.fl := rfl
@[simp] theorem freeSlot_phase (i : SlotIndex) (s : State) : (freeSlot i s).phase = s.phase := rfl
@[simp] theorem freeSlot_sent (i : SlotIndex) (s : State) : (freeSlot i s).sent = s.sent := rfl
@[simp] theorem freeSlot_pending (i : SlotIndex) (s : State) : (freeSlot i s).pending = s.pending := rfl
@[simp] theorem freeSlot_fu_pointer (i : SlotIndex) (s : State) : (freeSlot i s).fu.pointer = s.fu.pointer := rfl
@[simp] theorem freeSlot_fu_nextFence (i : SlotIndex) (s : State) : (freeSlot i s).fu.nextFence = s.fu.nextFence := rfl
@[simp] theorem completeSlot_ports (l : Slot) (k : ClientPacket) (s : State) : (completeSlot l k s).ports = s.ports := by
  unfold completeSlot
  repeat' split
  all_goals first | rfl | simp
@[simp] theorem completeSlot_fabric (l : Slot) (k : ClientPacket) (s : State) : (completeSlot l k s).fabric = s.fabric := by
  unfold completeSlot
  repeat' split
  all_goals first | rfl | simp
@[simp] theorem completeSlot_strap (l : Slot) (k : ClientPacket) (s : State) : (completeSlot l k s).strap = s.strap := by
  unfold completeSlot
  repeat' split
  all_goals first | rfl | simp
@[simp] theorem completeSlot_tu (l : Slot) (k : ClientPacket) (s : State) : (completeSlot l k s).tu = s.tu := by
  unfold completeSlot
  repeat' split
  all_goals first | rfl | simp
@[simp] theorem completeSlot_du (l : Slot) (k : ClientPacket) (s : State) : (completeSlot l k s).du = s.du := by
  unfold completeSlot
  repeat' split
  all_goals first | rfl | simp
@[simp] theorem completeSlot_fu (l : Slot) (k : ClientPacket) (s : State) : (completeSlot l k s).fu = s.fu := by
  unfold completeSlot
  repeat' split
  all_goals first | rfl | simp
@[simp] theorem completeSlot_mu (l : Slot) (k : ClientPacket) (s : State) : (completeSlot l k s).mu = s.mu := by
  unfold completeSlot
  repeat' split
  all_goals first | rfl | simp
@[simp] theorem completeSlot_mc (l : Slot) (k : ClientPacket) (s : State) : (completeSlot l k s).mc = s.mc := by
  unfold completeSlot
  repeat' split
  all_goals first | rfl | simp
@[simp] theorem completeSlot_tb (l : Slot) (k : ClientPacket) (s : State) : (completeSlot l k s).tb = s.tb := by
  unfold completeSlot
  repeat' split
  all_goals first | rfl | simp
@[simp] theorem completeSlot_fl (l : Slot) (k : ClientPacket) (s : State) : (completeSlot l k s).fl = s.fl := by
  unfold completeSlot
  repeat' split
  all_goals first | rfl | simp
@[simp] theorem completeSlot_phase (l : Slot) (k : ClientPacket) (s : State) : (completeSlot l k s).phase = s.phase := by
  unfold completeSlot
  repeat' split
  all_goals first | rfl | simp
@[simp] theorem completeSlot_pending (l : Slot) (k : ClientPacket) (s : State) : (completeSlot l k s).pending = s.pending := by
  unfold completeSlot
  repeat' split
  all_goals first | rfl | simp
@[simp] theorem refuseSlot_ports (l : Slot) (c : RefusalCode) (s : State) : (refuseSlot l c s).ports = s.ports := by
  unfold refuseSlot
  repeat' split
  all_goals first | rfl | simp
@[simp] theorem refuseSlot_fabric (l : Slot) (c : RefusalCode) (s : State) : (refuseSlot l c s).fabric = s.fabric := by
  unfold refuseSlot
  repeat' split
  all_goals first | rfl | simp
@[simp] theorem refuseSlot_strap (l : Slot) (c : RefusalCode) (s : State) : (refuseSlot l c s).strap = s.strap := by
  unfold refuseSlot
  repeat' split
  all_goals first | rfl | simp
@[simp] theorem refuseSlot_tu (l : Slot) (c : RefusalCode) (s : State) : (refuseSlot l c s).tu = s.tu := by
  unfold refuseSlot
  repeat' split
  all_goals first | rfl | simp
@[simp] theorem refuseSlot_du (l : Slot) (c : RefusalCode) (s : State) : (refuseSlot l c s).du = s.du := by
  unfold refuseSlot
  repeat' split
  all_goals first | rfl | simp
@[simp] theorem refuseSlot_fu (l : Slot) (c : RefusalCode) (s : State) : (refuseSlot l c s).fu = s.fu := by
  unfold refuseSlot
  repeat' split
  all_goals first | rfl | simp
@[simp] theorem refuseSlot_mu (l : Slot) (c : RefusalCode) (s : State) : (refuseSlot l c s).mu = s.mu := by
  unfold refuseSlot
  repeat' split
  all_goals first | rfl | simp
@[simp] theorem refuseSlot_mc (l : Slot) (c : RefusalCode) (s : State) : (refuseSlot l c s).mc = s.mc := by
  unfold refuseSlot
  repeat' split
  all_goals first | rfl | simp
@[simp] theorem refuseSlot_tb (l : Slot) (c : RefusalCode) (s : State) : (refuseSlot l c s).tb = s.tb := by
  unfold refuseSlot
  repeat' split
  all_goals first | rfl | simp
@[simp] theorem refuseSlot_fl (l : Slot) (c : RefusalCode) (s : State) : (refuseSlot l c s).fl = s.fl := by
  unfold refuseSlot
  repeat' split
  all_goals first | rfl | simp
@[simp] theorem refuseSlot_phase (l : Slot) (c : RefusalCode) (s : State) : (refuseSlot l c s).phase = s.phase := by
  unfold refuseSlot
  repeat' split
  all_goals first | rfl | simp
@[simp] theorem refuseSlot_pending (l : Slot) (c : RefusalCode) (s : State) : (refuseSlot l c s).pending = s.pending := by
  unfold refuseSlot
  repeat' split
  all_goals first | rfl | simp
@[simp] theorem answerQuiesce_ports (st : ReplyStatus) (s : State) : (answerQuiesce st s).ports = s.ports := by
  unfold answerQuiesce
  repeat' split
  all_goals first | rfl | simp
@[simp] theorem answerQuiesce_fabric (st : ReplyStatus) (s : State) : (answerQuiesce st s).fabric = s.fabric := by
  unfold answerQuiesce
  repeat' split
  all_goals first | rfl | simp
@[simp] theorem answerQuiesce_strap (st : ReplyStatus) (s : State) : (answerQuiesce st s).strap = s.strap := by
  unfold answerQuiesce
  repeat' split
  all_goals first | rfl | simp
@[simp] theorem answerQuiesce_tu (st : ReplyStatus) (s : State) : (answerQuiesce st s).tu = s.tu := by
  unfold answerQuiesce
  repeat' split
  all_goals first | rfl | simp
@[simp] theorem answerQuiesce_du (st : ReplyStatus) (s : State) : (answerQuiesce st s).du = s.du := by
  unfold answerQuiesce
  repeat' split
  all_goals first | rfl | simp
@[simp] theorem answerQuiesce_fu (st : ReplyStatus) (s : State) : (answerQuiesce st s).fu = s.fu := by
  unfold answerQuiesce
  repeat' split
  all_goals first | rfl | simp
@[simp] theorem answerQuiesce_mu (st : ReplyStatus) (s : State) : (answerQuiesce st s).mu = s.mu := by
  unfold answerQuiesce
  repeat' split
  all_goals first | rfl | simp
@[simp] theorem answerQuiesce_tb (st : ReplyStatus) (s : State) : (answerQuiesce st s).tb = s.tb := by
  unfold answerQuiesce
  repeat' split
  all_goals first | rfl | simp
@[simp] theorem answerQuiesce_fl (st : ReplyStatus) (s : State) : (answerQuiesce st s).fl = s.fl := by
  unfold answerQuiesce
  repeat' split
  all_goals first | rfl | simp
@[simp] theorem answerQuiesce_phase (st : ReplyStatus) (s : State) : (answerQuiesce st s).phase = s.phase := by
  unfold answerQuiesce
  repeat' split
  all_goals first | rfl | simp
@[simp] theorem answerQuiesce_pending (st : ReplyStatus) (s : State) : (answerQuiesce st s).pending = s.pending := by
  unfold answerQuiesce
  repeat' split
  all_goals first | rfl | simp
@[simp] theorem answerQuiesce_mc_admission (st : ReplyStatus) (s : State) : (answerQuiesce st s).mc.admission = s.mc.admission := by
  unfold answerQuiesce
  repeat' split
  all_goals first | rfl | simp
@[simp] theorem answerQuiesce_mc_owner (st : ReplyStatus) (s : State) : (answerQuiesce st s).mc.owner = s.mc.owner := by
  unfold answerQuiesce
  repeat' split
  all_goals first | rfl | simp
@[simp] theorem answerQuiesce_mc_cause (st : ReplyStatus) (s : State) : (answerQuiesce st s).mc.cause = s.mc.cause := by
  unfold answerQuiesce
  repeat' split
  all_goals first | rfl | simp
@[simp] theorem answerQuiesce_mc_noticeSeq (st : ReplyStatus) (s : State) : (answerQuiesce st s).mc.noticeSeq = s.mc.noticeSeq := by
  unfold answerQuiesce
  repeat' split
  all_goals first | rfl | simp
@[simp] theorem answerFromCache_ports (e : CacheEntry) (s : State) : (answerFromCache e s).ports = s.ports := by
  unfold answerFromCache
  repeat' split
  all_goals first | rfl | simp
@[simp] theorem answerFromCache_fabric (e : CacheEntry) (s : State) : (answerFromCache e s).fabric = s.fabric := by
  unfold answerFromCache
  repeat' split
  all_goals first | rfl | simp
@[simp] theorem answerFromCache_strap (e : CacheEntry) (s : State) : (answerFromCache e s).strap = s.strap := by
  unfold answerFromCache
  repeat' split
  all_goals first | rfl | simp
@[simp] theorem answerFromCache_tu (e : CacheEntry) (s : State) : (answerFromCache e s).tu = s.tu := by
  unfold answerFromCache
  repeat' split
  all_goals first | rfl | simp
@[simp] theorem answerFromCache_du (e : CacheEntry) (s : State) : (answerFromCache e s).du = s.du := by
  unfold answerFromCache
  repeat' split
  all_goals first | rfl | simp
@[simp] theorem answerFromCache_fu (e : CacheEntry) (s : State) : (answerFromCache e s).fu = s.fu := by
  unfold answerFromCache
  repeat' split
  all_goals first | rfl | simp
@[simp] theorem answerFromCache_mu (e : CacheEntry) (s : State) : (answerFromCache e s).mu = s.mu := by
  unfold answerFromCache
  repeat' split
  all_goals first | rfl | simp
@[simp] theorem answerFromCache_mc (e : CacheEntry) (s : State) : (answerFromCache e s).mc = s.mc := by
  unfold answerFromCache
  repeat' split
  all_goals first | rfl | simp
@[simp] theorem answerFromCache_tb (e : CacheEntry) (s : State) : (answerFromCache e s).tb = s.tb := by
  unfold answerFromCache
  repeat' split
  all_goals first | rfl | simp
@[simp] theorem answerFromCache_fl (e : CacheEntry) (s : State) : (answerFromCache e s).fl = s.fl := by
  unfold answerFromCache
  repeat' split
  all_goals first | rfl | simp
@[simp] theorem answerFromCache_phase (e : CacheEntry) (s : State) : (answerFromCache e s).phase = s.phase := by
  unfold answerFromCache
  repeat' split
  all_goals first | rfl | simp
@[simp] theorem answerFromCache_pending (e : CacheEntry) (s : State) : (answerFromCache e s).pending = s.pending := by
  unfold answerFromCache
  repeat' split
  all_goals first | rfl | simp
@[simp] theorem enterCache_ports (a q c : Byte) (n : Answer) (b s : State) : (enterCache a q c n b s).ports = s.ports := by
  unfold enterCache
  repeat' split
  all_goals rfl
@[simp] theorem enterCache_fabric (a q c : Byte) (n : Answer) (b s : State) : (enterCache a q c n b s).fabric = s.fabric := by
  unfold enterCache
  repeat' split
  all_goals rfl
@[simp] theorem enterCache_strap (a q c : Byte) (n : Answer) (b s : State) : (enterCache a q c n b s).strap = s.strap := by
  unfold enterCache
  repeat' split
  all_goals rfl
@[simp] theorem enterCache_tu (a q c : Byte) (n : Answer) (b s : State) : (enterCache a q c n b s).tu = s.tu := by
  unfold enterCache
  repeat' split
  all_goals rfl
@[simp] theorem enterCache_du (a q c : Byte) (n : Answer) (b s : State) : (enterCache a q c n b s).du = s.du := by
  unfold enterCache
  repeat' split
  all_goals rfl
@[simp] theorem enterCache_fu (a q c : Byte) (n : Answer) (b s : State) : (enterCache a q c n b s).fu = s.fu := by
  unfold enterCache
  repeat' split
  all_goals rfl
@[simp] theorem enterCache_mu (a q c : Byte) (n : Answer) (b s : State) : (enterCache a q c n b s).mu = s.mu := by
  unfold enterCache
  repeat' split
  all_goals rfl
@[simp] theorem enterCache_tb (a q c : Byte) (n : Answer) (b s : State) : (enterCache a q c n b s).tb = s.tb := by
  unfold enterCache
  repeat' split
  all_goals rfl
@[simp] theorem enterCache_fl (a q c : Byte) (n : Answer) (b s : State) : (enterCache a q c n b s).fl = s.fl := by
  unfold enterCache
  repeat' split
  all_goals rfl
@[simp] theorem enterCache_phase (a q c : Byte) (n : Answer) (b s : State) : (enterCache a q c n b s).phase = s.phase := by
  unfold enterCache
  repeat' split
  all_goals rfl
@[simp] theorem enterCache_sent (a q c : Byte) (n : Answer) (b s : State) : (enterCache a q c n b s).sent = s.sent := by
  unfold enterCache
  repeat' split
  all_goals rfl
@[simp] theorem enterCache_pending (a q c : Byte) (n : Answer) (b s : State) : (enterCache a q c n b s).pending = s.pending := by
  unfold enterCache
  repeat' split
  all_goals rfl
@[simp] theorem enterCache_mc_admission (a q c : Byte) (n : Answer) (b s : State) : (enterCache a q c n b s).mc.admission = s.mc.admission := by
  unfold enterCache
  repeat' split
  all_goals rfl
@[simp] theorem enterCache_mc_owner (a q c : Byte) (n : Answer) (b s : State) : (enterCache a q c n b s).mc.owner = s.mc.owner := by
  unfold enterCache
  repeat' split
  all_goals rfl
@[simp] theorem enterCache_mc_quiesce (a q c : Byte) (n : Answer) (b s : State) : (enterCache a q c n b s).mc.quiesce = s.mc.quiesce := by
  unfold enterCache
  repeat' split
  all_goals rfl
@[simp] theorem enterCache_mc_cause (a q c : Byte) (n : Answer) (b s : State) : (enterCache a q c n b s).mc.cause = s.mc.cause := by
  unfold enterCache
  repeat' split
  all_goals rfl
@[simp] theorem enterCache_mc_noticeSeq (a q c : Byte) (n : Answer) (b s : State) : (enterCache a q c n b s).mc.noticeSeq = s.mc.noticeSeq := by
  unfold enterCache
  repeat' split
  all_goals rfl

/-! ### What they write -/

/-- A packet handed to a port with its link UP is sent; a port whose link is DOWN discards it. -/
theorem sendClient_sent (p : Port) (k : ClientPacket) (s : State) :
    (sendClient p k s).sent = if s.ports[p].link = .up then s.sent ++ [.client p k] else s.sent := by
  unfold sendClient; split <;> rfl

/-- A packet handed to the fabric port is sent where the fabric link is UP. -/
theorem sendFabric_sent (k : FabricPacket) (s : State) :
    (sendFabric k s).sent = if s.fabric = .up then s.sent ++ [.fabric k] else s.sent := by
  unfold sendFabric; split <;> rfl

@[simp] theorem freeRecord_records (t : Half) (s : State) :
    (freeRecord t s).mu.records = s.mu.records.filter fun m => m.ticket != t := rfl

@[simp] theorem freeRecord_held (t : Half) (s : State) :
    (freeRecord t s).mu.held = s.mu.held.filter fun h => h.place != .held t := rfl

@[simp] theorem retryRecord_records (t : Half) (s : State) :
    (retryRecord t s).mu.records = s.mu.records.filter fun m => m.ticket != t := rfl

@[simp] theorem popReplay_rp (s : State) : (popReplay s).mu.rp = none := rfl

@[simp] theorem popReplay_held (s : State) :
    (popReplay s).mu.held = s.mu.held.eraseP fun h => h.place == .replay := rfl

@[simp] theorem markStale_ports (g : Staged → Bool) (s : State) (j : Nat) (h : j < 4) :
    (markStale g s).ports[j] = { s.ports[j] with staging := s.ports[j].staging.map (Staged.mark g) } := by
  simp [markStale]

@[simp] theorem markStale_rp (g : Staged → Bool) (s : State) :
    (markStale g s).mu.rp = s.mu.rp.map (Staged.mark g) := rfl

/-- R81: the freed slot keeps every field but `occupied`; the other slots are untouched. -/
@[simp] theorem freeSlot_ort (i : SlotIndex) (s : State) (j : Nat) (h : j < 32) :
    (freeSlot i s).fu.ort[j] =
      if i.val = j then { s.fu.ort[i.val] with occupied := false } else s.fu.ort[j] := by
  simp [freeSlot]

@[simp] theorem freeSlot_fences (i : SlotIndex) (s : State) :
    (freeSlot i s).fu.fences =
      s.fu.fences.map fun f => { f with captured := f.captured.filter fun j => j != i } := rfl

@[simp] theorem grantCredit_ports (p : Port) (n : Nat) (s : State) (j : Nat) (h : j < 4) :
    (grantCredit p n s).ports[j] =
      if p.val = j then { s.ports[p.val] with credits := s.ports[p.val].credits + n } else s.ports[j] := by
  simp [grantCredit]

@[simp] theorem answerQuiesce_quiesce (st : ReplyStatus) (s : State) : (answerQuiesce st s).mc.quiesce = none := by
  unfold answerQuiesce; split
  · assumption
  · simp

/-- R172, R173: what a fault handed to the log does to the log. -/
theorem logFault_fl (f : FaultRec) (s : State) :
    (logFault f s).fl =
      if s.fl.records.length < Config.logCapacity then
        { s.fl with records := s.fl.records ++ [{ f with sequence := s.fl.sequence }], sequence := s.fl.sequence + 1 }
      else
        { s.fl with overflow := if s.fl.overflow = 0xFFFF then 0xFFFF else s.fl.overflow + 1,
                    sequence := s.fl.sequence + 1 } := by
  unfold logFault; simp only []; repeat' split
  all_goals first | rfl | simp

/-! ### Commands -/

/-- R131: when a command reaches step 5. -/
theorem envelope_none_iff (source sequence : Byte) (payload : List Byte) (check : Half) (fromAny : Bool) (s : State) :
    envelope source sequence payload check fromAny s = none ↔
      s.fabric = .up ∧ payload ≠ [] ∧ check = checkWord payload ∧ source ≠ s.ownNode ∧
      s.cacheHit source sequence = none ∧ (fromAny = true ∨ s.mc.owner = some source) := by
  unfold envelope
  by_cases h1 : s.fabric = .down
  · simp [h1]
  have h1' : s.fabric = .up := by cases h : s.fabric <;> simp_all
  by_cases h2 : payload = [] ∨ check ≠ checkWord payload
  · simp only [h1, h2, if_true, if_false]
    rcases h2 with h | h <;> simp [h]
  by_cases h3 : source = s.ownNode
  · simp [h1, h2, h3]
  cases h4 : s.cacheHit source sequence with
  | some e => simp [h1, h2, h3]
  | none =>
    have h2' := not_or.mp h2
    by_cases h5 : fromAny = false ∧ s.mc.owner ≠ some source
    · simp only [h1, h2, h3, h5, if_false]
      simp [h5.2]
    · simp only [h3, h5, if_false, h1', h2'.1, not_not.mp h2'.2]
      cases fromAny <;> simp_all

/-- R131: a command that steps 1 to 3 end leaves the part as it was, but for a fault record or a reply. -/
theorem envelope_some_cases {source sequence : Byte} {payload : List Byte} {check : Half} {fromAny : Bool}
    {s t : State} (h : envelope source sequence payload check fromAny s = some t) :
    t = s ∨ t = logFault (checkErrorFault .fabric) s ∨ t = logFault (unsolicitedFault source) s ∨
    (∃ e, s.cacheHit source sequence = some e ∧ t = answerFromCache e s) ∨
    (s.mc.owner ≠ some source ∧ t = sendReply source sequence (payload.headD 0) .notOwner [] s) := by
  unfold envelope at h
  split at h
  · simp_all
  split at h
  · simp_all
  split at h
  · simp_all
  split at h
  · simp_all
  split at h
  · simp_all
  · simp at h

/-- R131: what a command of the catalogue does: steps 1 to 3 end it, or its body runs and it is answered. -/
theorem takeCommand_cases (code : Byte) (fromAny : Bool) (c : Command) (body : State → State × Reply) (s : State) :
    (∃ t, envelope c.source c.sequence (code :: c.params) c.check fromAny s = some t ∧
      takeCommand code fromAny c body s = t) ∨
    (envelope c.source c.sequence (code :: c.params) c.check fromAny s = none ∧
      takeCommand code fromAny c body s = finish c.source c.sequence code s (body s)) := by
  unfold takeCommand
  cases h : envelope c.source c.sequence (code :: c.params) c.check fromAny s with
  | some t => exact .inl ⟨t, rfl, rfl⟩
  | none => exact .inr ⟨rfl, rfl⟩

/-- R156: when the part is drained. -/
theorem drained_iff (s : State) :
    s.drained = true ↔
      (∀ i : SlotIndex, s.fu.ort[i].occupied = false) ∧ (∀ p : Port, s.ports[p].staging = none) ∧ s.mu.rp = none ∧
      s.mu.held = [] ∧ s.mu.records = [] := by
  unfold State.drained State.stagingEmpty State.ortOccupancy
  simp [List.countP_eq_zero]
  tauto

/-- R125, R157: when the MC finds the part drained, with no fence reply left to send. -/
theorem quiet_iff (s : State) : s.quiet = true ↔ s.drained = true ∧ ∀ f ∈ s.fu.fences, f.captured ≠ [] := by
  simp [State.quiet, State.fenceDue, FenceRec.due]

/-! ### Before time passes -/

/-- R122: with no reply due, no record leaves the Fence List. -/
theorem completeDueFences_none (s : State) (h : s.fenceDue = false) : completeDueFences s = s := by
  have hn : ∀ f ∈ s.fu.fences, f.due = false := by simpa [State.fenceDue] using h
  have e1 : s.fu.fences.filter FenceRec.due = [] := by
    rw [List.filter_eq_nil_iff]
    intro f hf
    simp [hn f hf]
  have e2 : (s.fu.fences.filter fun f => !f.due) = s.fu.fences := by
    rw [List.filter_eq_self]
    intro f hf
    simp [hn f hf]
  unfold completeDueFences
  rw [e1, e2]
  rfl

/-- R98: the expiry of a miss record leaves the Forwarding Unit as it was. -/
@[simp] theorem expireTicket_fu (s : State) (t : Half) : (expireTicket s t).fu = s.fu := by
  unfold expireTicket
  split
  · split
    · simp only [expireRecord, freeRecord, logFault_fu]
      exact foldl_keeps (·.fu) _ (by intros; simp) _ _
    · rfl
  · rfl

/-- R157: the end of a drain leaves the Forwarding Unit as it was. -/
@[simp] theorem endDrain_fu (s : State) : (endDrain s).fu = s.fu := by
  unfold endDrain completeDrain
  split <;> simp

/-- R122, R126: exactly the records whose captured sets have emptied leave the Fence List. -/
theorem completeDueFences_fences (s : State) :
    (completeDueFences s).fu.fences = s.fu.fences.filter fun f => !f.due :=
  foldl_keeps (·.fu.fences) _ (by intros; simp) _ _

/-- R122: after the replies that are due, none is due. -/
theorem completeDueFences_fenceDue (s : State) : (completeDueFences s).fenceDue = false := by
  simp [State.fenceDue, completeDueFences_fences]

/-- R98: the expiry of every due miss record leaves the Forwarding Unit as it was. -/
@[simp] theorem expireRecords_fu (s : State) : (expireRecords s).fu = s.fu :=
  foldl_keeps (·.fu) _ (by intros; simp) _ _

/-- R79, R122: the expiry of a slot leaves no fence reply due that was not due before. -/
theorem expireIfDue_fenceDue (s : State) (i : SlotIndex) (h : s.fenceDue = false) : (expireIfDue s i).fenceDue = false := by
  unfold expireIfDue
  split
  · exact completeDueFences_fenceDue _
  · exact h

/-- R124: what is taken before time passes leaves no fence reply due, so each record still captures a slot (log entry
21). -/
theorem settle_fenceDue (s : State) : (settle s).fenceDue = false := by
  have sweep : ∀ (l : List SlotIndex) (u : State), u.fenceDue = false → (l.foldl expireIfDue u).fenceDue = false := by
    intro l
    induction l with
    | nil => exact fun _ h => h
    | cons i l ih => exact fun u h => ih _ (expireIfDue_fenceDue u i h)
  have h := sweep (List.finRange 32) _ (completeDueFences_fenceDue s)
  simpa [settle, State.fenceDue] using h

/-- R83: a tick leaves the Fence List as it was. -/
@[simp] theorem tickAll_fences (s : State) : (tickAll s).fu.fences = s.fu.fences := by simp only [tickAll]

/-- R82: a reference clock cycle leaves the Fence List as it was. -/
@[simp] theorem refClock_fences (s : State) : (refClock s).fu.fences = s.fu.fences := by
  unfold refClock
  split
  · split
    · exact tickAll_fences s
    · rfl
  · rfl

end Sys2Proof.Machine
end

