-- ==== Sys2Proof/Tests/Slice0.lean ====
section
/-! SUPPORT. Tests of the model and witnesses of its statements. An expected value comes from the rule or the worked
sequence named beside it. `witness_X` shows, for the statement X, states and operands that meet its hypotheses, each
clause at the ends of its range. -/

namespace Sys2Proof.Tests

open Sys2Proof Sys2Proof.Machine

set_option Elab.async false

/-! ### Small states and what is read off them -/

/-- The part of section 11.1 once its links are UP: own node 134. -/
def linked : State :=
  { State.reset with strap := 6, fabric := .up,
                     ports := Vector.replicate 4 { PortState.cleared with link := .up, credits := 8 } }

/-- The linked part owned by node 20, admission as given. -/
def owned (a : Admission) : State := { linked with mc := { linked.mc with owner := some 20, admission := a } }

/-- Entry 0 of section 11.1, step 6. -/
def entry0 : Entry :=
  { Entry.cleared with valid := true, size := .s32K, node := 12, fabricBase := 0x400000000,
                       perms := { r := true, w := true, p := false } }

/-- A domain record as section 11.1, step 3 sets it. -/
def active : DomainRec := { DomainRec.cleared with state := .active, policy := .hold }

/-- The part of section 11.1 after step 8: entry 0 in place, CP0 stream 0 bound to domain 0. -/
def opened : State :=
  { owned .opened with
    tu := { (owned .opened).tu with entries := (owned .opened).tu.entries.set 0 entry0 }
    du := { streams := (owned .opened).du.streams.set 0 ((owned .opened).du.streams[0].set 0 (some 0))
            domains := (owned .opened).du.domains.set 0 active } }

/-- A client request packet of stream `st` with a good payload check. -/
def packet (kind st tag : Byte) (length : Half) (address : Addr) (bytes : List Byte) : RxPacket :=
  { kind := kind, streamByte := st, tag := tag, code := 0, length := length, address := address,
    payload := carried bytes }

/-- The state with these packets in the queue of port `p`, their credits used. -/
def queued (p : Port) (l : List RxPacket) (s : State) : State :=
  s.updPort p fun c => { c with queue := l, credits := 8 - l.length }

/-- The READ of section 11.1, step 9. -/
def read9 : RxPacket := packet 0x11 0 0x11 64 0x00001040 []

/-- A request of CP0 stream 0. -/
def request (kind : ReqKind) (address : Addr) (payload : List Byte) : Request :=
  { kind := kind, port := 0, stream := 0, tag := 0x11, address := address, length := 64, payload := payload }

/-- A staged request of domain 0 through entry 0. -/
def stagedReq (kind : ReqKind) : Staged :=
  { req := request kind 0x00001040 [], domain := 0, node := 12, fabricAddress := 0x400001040, entry := 0,
    stale := false }

/-- A staged request marked stale. -/
def staleReq (kind : ReqKind) : Staged := { stagedReq kind with stale := true }

/-- An occupied slot of CP0's request. -/
def slot (kind : ReqKind) (timer : Byte) : Slot :=
  { Slot.cleared with occupied := true, incarnation := 1, kind := kind, tag := 0x11, address := 0x00001040,
                      node := 12, length := 2, timer := timer }

/-- The state with ORT slot `i` at `sl`. -/
def withSlot (i : SlotIndex) (sl : Slot) (s : State) : State := s.updSlot i fun _ => sl

/-- The state with every ORT slot at `sl`. -/
def fullOrt (sl : Slot) (s : State) : State := { s with fu := { s.fu with ort := Vector.replicate 32 sl } }

/-- A miss record of domain 0. -/
def missRec (t : Half) (page : BitVec 20) (timer : Byte) : MissRec :=
  { ticket := t, domain := 0, page := page, wanted := { r := true, w := false, p := false }, firstPort := 0,
    firstStream := 0, timer := timer }

/-- A request of domain 0 in the Held Store. -/
def heldReq (place : Place) (kind : ReqKind) (address : Addr) : HeldReq :=
  { req := request kind address [], domain := 0, place := place }

/-- The state with this Miss List and Held Store. -/
def missing (rs : List MissRec) (hs : List HeldReq) (s : State) : State :=
  { s with mu := { s.mu with records := rs, held := hs } }

/-- A fence record of node 20. -/
def fenceRec (id : Nat) (captured : List SlotIndex) : FenceRec :=
  { id := id, command := .invalidate, sequence := 20, node := 20, count := 1, captured := captured }

/-- A COMMAND of node 20 with a good payload check. -/
def command (code sequence : Byte) (params : List Byte) : Command :=
  { source := 20, sequence := sequence, params := params, check := checkWord (code :: params) }

/-- A response of node 12 with a good payload check. -/
def response (tag : Byte) (bytes : List Byte) : Response :=
  { source := 12, tag := tag, status := 3, address := 0, payload := carried bytes }

/-- The state after a command. -/
def after (c : Instr) (s : State) : State :=
  match exec c s with
  | .next t => t
  | _ => s

/-- The kind and code bytes of what a command sent to clients, with the port. -/
def toClients (c : Instr) (s : State) : List (Port × Byte × Byte) :=
  ((after c s).sent.drop s.sent.length).filterMap fun
    | .client p k => some (p, k.kind, k.code)
    | .fabric _ => none

/-- The kind, status, destination, sequence and payload bytes of what a command sent over the fabric. -/
def toFabric (c : Instr) (s : State) : List (Byte × Byte × Byte × Byte × List Byte) :=
  ((after c s).sent.drop s.sent.length).filterMap fun
    | .client _ _ => none
    | .fabric k => some (k.kind, k.status, k.destination, k.sequence, k.payload)

/-- The status and the results of the reply a command made to node 20. -/
def reply (c : Instr) (s : State) : List (Byte × List Byte) :=
  (toFabric c s).filterMap fun (kind, status, _, _, payload) =>
    if kind = 0x61 then some (status, payload.drop 1) else none

/-! ### Well-formedness: each check refuses an ill-formed term -/

theorem test_wf_responsePayload :
    Instr.wf (.readData { response 1 [] with payload := some { bytes := [], check := 0 } }) = false ∧
    Instr.wf (.writeAck { response 1 [] with payload := some { bytes := [], check := 0 } }) = false ∧
    Instr.wf (.fabricError { response 1 [] with payload := some { bytes := [], check := 0 } }) = false := by decide

theorem test_wf_responseLong :
    Response.wf { response 1 [] with payload := some { bytes := List.replicate 257 0, check := 0 } } = false := by
  decide +kernel

theorem test_wf_commandLong :
    Command.wf { source := 20, sequence := 0, params := List.replicate 256 0, check := 0 } = false := by
  decide +kernel

/-- R73: a kind that is handed on as a response or a COMMAND is no unsolicited packet. -/
theorem test_wf_unsolicitedKind :
    (takenKinds.any fun k => Instr.wf (.unsolicitedPacket 12 k)) = false := by decide

/-- A command without parameters, for the checks of the selecting bytes. -/
def bare (params : List Byte) : Command := { source := 20, sequence := 0, params := params, check := 0 }

theorem test_wf_resetKind :
    Instr.wf (.resetTraffic (bare [2])) = false ∧ Instr.wf (.resetFull (bare [1])) = false ∧
    Instr.wf (.resetFull (bare [])) = false := by decide

theorem test_wf_installIndex :
    Instr.wf (.install (bare [0xFF])) = false ∧ Instr.wf (.installAny (bare [63])) = false := by decide

theorem test_wf_invalidateSelector :
    Instr.wf (.invalidateIndex (bare [2])) = false ∧ Instr.wf (.invalidateIndex (bare [5])) = false ∧
    Instr.wf (.invalidateDomain (bare [1])) = false ∧ Instr.wf (.invalidateRange (bare [2])) = false ∧
    Instr.wf (.invalidateUnpinned (bare [5])) = false ∧ Instr.wf (.invalidateAll (bare [4])) = false := by decide

theorem test_wf_resolveAction :
    Instr.wf (.resolveRetry (bare [0, 0, 2])) = false ∧ Instr.wf (.resolveDeny (bare [0, 0, 1])) = false := by decide

theorem test_wf_unknownCode :
    (catalogue.any fun code => Instr.wf (.unknownCommand 20 0 [code] 0)) = false := by decide

theorem test_wf_unknownLong :
    Instr.wf (.unknownCommand 20 0 (List.replicate 257 0xEE) 0) = false := by decide +kernel

/-! ### Bytes (10) -/

/-- CRC-16/PROFIBUS has the parameters of R180 and inverts its result: 0xA819 over the ASCII digits 1 to 9. -/
theorem test_checkWord : checkWord [0x31, 0x32, 0x33, 0x34, 0x35, 0x36, 0x37, 0x38, 0x39] = ~~~ 0xA819#16 := by
  decide +kernel

/-- R180: over the covered bytes and their check word the register ends at 0. -/
theorem test_checkWord_residue : checkWord [0x01, 0x02, 0x03, (checkWord [1, 2, 3]).extractLsb' 8 8,
    (checkWord [1, 2, 3]).extractLsb' 0 8] = 0 := by decide +kernel

/-- The frame of a COMMAND of node 20 to node 134, written out (R184, R187). -/
def commandFrame (sequence : Byte) (payload : List Byte) : List Byte :=
  let header : List Byte := [0x60, 0, 20, 134, 0, sequence, 0, BitVec.ofNat 8 payload.length, 0, 0, 0, 0, 0, 0]
  let h := checkWord header
  let p := checkWord payload
  header ++ [h.extractLsb' 8 8, h.extractLsb' 0 8] ++ payload ++ [p.extractLsb' 8 8, p.extractLsb' 0 8]

/-- R148, R187: SET TIMING, RESET FULL, INSTALL ANY and INVALIDATE RANGE by their code and selecting bytes. -/
theorem test_fabricRow_commands :
    fabricRow 134 (commandFrame 2 [0x18, 0, 1, 2]) = .setTiming (command 0x18 2 [0, 1, 2]) ∧
    fabricRow 134 (commandFrame 2 [0x14, 2]) = .resetFull (command 0x14 2 [2]) ∧
    fabricRow 134 (commandFrame 2 [0x30, 0xFF]) = .installAny (command 0x30 2 [0xFF]) ∧
    fabricRow 134 (commandFrame 2 [0x33, 3, 0]) = .invalidateRange (command 0x33 2 [3, 0]) := by decide +kernel

/-- R73, R181: another node's frame is foreign, a frame of 17 bytes is bad. -/
theorem test_fabricRow_others :
    fabricRow 135 (commandFrame 2 [0x03]) = .foreignPacket 134 ∧
    fabricRow 134 ((commandFrame 2 [0x03]).take 17) = .fabricBadFrame ((commandFrame 2 [0x03]).take 17) := by
  decide +kernel

/-- R189, R190: entry 0 of section 11.1 as READ ENTRY returns it, with its hit flag set. -/
theorem test_entryRecord : ({ entry0 with hit := true } : Entry).record 0 =
    [0, 0x9C, 0x90, 12, 0, 0, 0, 0, 0, 4, 0, 0, 0, 0, 0xFF, 0xFF] := by decide

/-! ### Power and links (08, 03; section 11.1) -/

/-- Section 11.1: strap 0110 makes node 134; the cause is POWER with flag no. -/
theorem test_powerOn :
    (after (.powerOn 6) opened).ownNode = 134 ∧ (after (.powerOn 6) opened).mc.cause = { kind := .power, trafficLost := false } ∧
    (after (.powerOn 6) opened).mc.owner = none ∧ (after (.powerOn 6) opened).tu.entries[0] = Entry.cleared := by
  decide +kernel

/-- R164, R166: a queued packet at the assertion makes the flag yes. -/
theorem test_pinResetAssert :
    (after .pinResetAssert (queued 0 [read9] opened)).phase = .inReset true ∧
    (after .pinResetAssert opened).phase = .inReset false ∧
    (after .pinResetAssert opened).fabric = .down ∧ (after .pinResetAssert opened).sent = [] := by decide +kernel

/-- R164, R165: the cause is PIN with the flag of the assertion. -/
theorem test_pinResetRelease :
    (after (.pinResetRelease 1) { opened with phase := .inReset true }).mc.cause =
      { kind := .pin, trafficLost := true } ∧
    (after (.pinResetRelease 1) { opened with phase := .inReset true }).ownNode = 129 := by decide +kernel

theorem test_startupClearingDone :
    (after .startupClearingDone { State.reset with phase := .clearing }).phase = .running := by decide +kernel

/-- Section 11.1, step 1: CP0 comes UP and sends a CREDIT granting 8. -/
theorem test_clientLinkUp :
    (after (.clientLinkUp 0) State.reset).ports[0].credits = 8 ∧
    (after (.clientLinkUp 0) State.reset).sent = [.client 0 (creditOf 8)] := by decide +kernel

/-- R47 to R49: the port's slots become orphans, and the record it alone held is freed without a word. -/
theorem test_clientLinkDown :
    let s := withSlot 9 (slot .read 5) (missing [missRec 0 0x40 5] [heldReq (.held 0) .read 0x40000] opened)
    (after (.clientLinkDown 0) s).fu.ort[9].orphan = true ∧ (after (.clientLinkDown 0) s).mu.records = [] ∧
    (after (.clientLinkDown 0) s).ports[0] = PortState.cleared ∧ (after (.clientLinkDown 0) s).sent = [] := by
  decide +kernel

theorem test_fabricLinkUp : (after .fabricLinkUp State.reset).fabric = .up := by decide +kernel

/-- R87, R167: a READ in the ORT is refused UPSTREAM_LOST (0x0A), a POSTED WRITE is logged with code 0x0101. -/
theorem test_fabricLinkLoss :
    let s := withSlot 3 (slot .read 5) (withSlot 4 (slot .postedWrite 5) opened)
    toClients .fabricLinkLoss s = [(0, 0x2F, 0x0A)] ∧
    (after .fabricLinkLoss s).fl.records.map (fun r => (r.kind, r.code)) = [(.postedFailed, some 0x0101)] ∧
    (after .fabricLinkLoss s).mc.owner = none ∧ (after .fabricLinkLoss s).mc.admission = .closed := by decide +kernel

/-! ### Client ports (03; sections 11.1, 11.3) -/

/-- The frame of section 11.1, step 9, with the given header check. -/
def frame9 (check : Half) : List Byte := [0x11, 0, 0x11, 0, 0, 64, 0, 0, 0x10, 0x40] ++ be16 check

/-- R51, R52: a good frame joins the queue and uses a credit; a bad check returns it with a CREDIT and a record. -/
theorem test_clientPacketArrival :
    let good := frame9 (checkWord [0x11, 0, 0x11, 0, 0, 64, 0, 0, 0x10, 0x40])
    (after (.clientPacketArrival 0 good) opened).ports[0].queue = [read9] ∧
    (after (.clientPacketArrival 0 good) opened).ports[0].credits = 7 ∧
    toClients (.clientPacketArrival 0 (frame9 0)) opened = [(0, 0x30, 0)] ∧
    (after (.clientPacketArrival 0 (frame9 0)) opened).ports[0].credits = 8 := by decide +kernel

/-- R50: with no credit the frame is an overrun. -/
theorem test_clientPacketArrival_overrun :
    ((after (.clientPacketArrival 0 []) (opened.updPort 0 fun c => { c with credits := 0 })).fl.records.map
      fun r => (r.kind, r.source)) = [(.overrun, .port 0)] := by decide +kernel

/-- Section 11.1, steps 2 and 9: NOT_READY with a CREDIT in CLOSED; staged at fabric address 0x000400001040 in OPEN. -/
theorem test_headProcessing :
    toClients (.headProcessing 0) (queued 0 [read9] linked) = [(0, 0x2F, 0x01), (0, 0x30, 0)] ∧
    (after (.headProcessing 0) (queued 0 [read9] opened)).ports[0].staging.map (fun q => (q.fabricAddress, q.node)) =
      some (0x000400001040, 12) ∧
    (after (.headProcessing 0) (queued 0 [read9] opened)).tu.entries[0].hit = true := by decide +kernel

/-- Section 11.3, start: the WRITE at 0x00040100 misses, ticket 0 is created, and notice 0 goes to node 20 with page
0x00040, wanted {W}, CP0 stream 0. -/
theorem test_headProcessing_miss :
    let s := queued 0 [packet 0x12 0 0x12 2 0x00040100 [1, 2]] opened
    toFabric (.headProcessing 0) s = [(0x62, 0, 20, 0, [1, 0, 0, 0, 0, 0, 0x40, 2, 0, 0])] ∧
    (after (.headProcessing 0) s).mu.ticket = 1 ∧ (after (.headProcessing 0) s).mu.records.map (·.timer) = [50] ∧
    (after (.headProcessing 0) s).mu.held.length = 1 := by decide +kernel

/-- R59: a stale request whose domain is now BARRED is refused DENIED (0x04), and no CREDIT leaves. -/
theorem test_portStaleRelookup :
    let s := opened.setStaging 0 (some (staleReq .read))
    let barred : State := { s with du := { s.du with domains := s.du.domains.set 0 DomainRec.cleared } }
    toClients (.portStaleRelookup 0) barred = [(0, 0x2F, 0x04)] ∧
    (after (.portStaleRelookup 0) s).ports[0].staging = some (stagedReq .read) ∧
    toClients (.portStaleRelookup 0) s = [] := by decide +kernel

/-! ### Forwarding (04; sections 11.1, 11.3) -/

/-- Section 11.1, step 10: CP0 is granted slot 0, the tag is 1, the pointer moves to CP0. Section 11.3, step 3: from
CP0 the arbiter grants RP. -/
theorem test_grant :
    let s := opened.setStaging 0 (some (stagedReq .read))
    (after .grant s).fu.ort[0].occupied = true ∧ (after .grant s).fu.ort[0].incarnation = 1 ∧
    (after .grant s).fu.pointer = .cp 0 ∧
    (after .grant s).sent.map (fun | .fabric k => (k.kind, k.tag, k.destination) | .client _ k => (k.kind, 0, 0)) =
      [(0x41, 1, 12)] ∧
    (after .grant { s with fu := { s.fu with pointer := .cp 0 }, mu := { s.mu with
      held := [heldReq .replay .write 0], rp := some (stagedReq .write) } }).fu.pointer = .rp := by decide +kernel

/-- Section 11.1, step 11: READ DATA with tag 1 goes to CP0, and slot 0 is free. -/
theorem test_readData :
    toClients (.readData (response 1 [5, 6])) (withSlot 0 (slot .read 5) opened) = [(0, 0x21, 0)] ∧
    (after (.readData (response 1 [5, 6])) (withSlot 0 (slot .read 5) opened)).fu.ort[0].occupied = false := by
  decide +kernel

/-- Section 11.5, step 4: a READ DATA of another length is refused UPSTREAM_ERROR (0x09) with a record; R74: one with
tag 2 is stray. -/
theorem test_readData_bad :
    let s := withSlot 0 (slot .read 5) opened
    toClients (.readData (response 1 [5])) s = [(0, 0x2F, 0x09)] ∧
    (after (.readData (response 1 [5])) s).fl.records.map (·.kind) = [.upstreamProtocol] ∧
    (after (.readData (response 2 [5, 6])) s).fl.records.map (fun r => (r.kind, r.tag, r.code)) =
      [(.strayResponse, some 2, some 12)] ∧
    (after (.readData (response 2 [5, 6])) s).fu.ort[0].occupied = true := by decide +kernel

/-- Section 11.3, step 4: WRITE DONE; R78: nothing for an orphan. -/
theorem test_writeAck :
    toClients (.writeAck (response 1 [])) (withSlot 0 (slot .write 5) opened) = [(0, 0x22, 0)] ∧
    toClients (.writeAck (response 1 [])) (withSlot 0 { slot .write 5 with orphan := true } opened) = [] := by
  decide +kernel

/-- R77: a POSTED WRITE's FABRIC ERROR is logged with its status as code. -/
theorem test_fabricError :
    (after (.fabricError (response 1 [])) (withSlot 0 (slot .postedWrite 5) opened)).fl.records.map
      (fun r => (r.kind, r.code)) = [(.postedFailed, some 3)] ∧
    toClients (.fabricError (response 1 [])) (withSlot 0 (slot .read 5) opened) = [(0, 0x2F, 0x09)] := by
  decide +kernel

theorem test_fabricBadFrame :
    (after (.fabricBadFrame []) linked).fl.records.map (fun r => (r.kind, r.source)) = [(.checkError, .fabric)] := by
  decide +kernel

theorem test_foreignPacket : exec (.foreignPacket 7) opened = .next opened := by rfl

/-- R147, R175, R191: the record of node 9, and the FAULT notice that the first record raises. -/
theorem test_unsolicitedPacket :
    (after (.unsolicitedPacket 9 0x41) opened).fl.records.map (fun r => (r.kind, r.code)) = [(.unsolicited, some 9)] ∧
    toFabric (.unsolicitedPacket 9 0x41) opened = [(0x62, 0, 20, 0, [2, 0, 0, 8, 4])] := by decide +kernel

/-- R83: timers fall by one, those of free slots do not run. -/
theorem test_tick :
    let s := withSlot 0 (slot .read 5) (missing [missRec 0 0x40 1] [heldReq (.held 0) .read 0x40000] opened)
    (after .tick s).fu.ort[0].timer = 4 ∧ (after .tick s).mu.records.map (·.timer) = [0] := by decide +kernel

/-- The part with the last slot a fence waits for at timer 0, and a slot at 5. -/
def overdue : State :=
  let s := withSlot 3 (slot .write 0) (withSlot 8 (slot .read 5) opened)
  { s with fu := { s.fu with fences := [fenceRec 0 [3]] } }

/-- R83, R124: no tick passes a timer at zero: before the tick the slot's WRITE is refused UPSTREAM_TIMEOUT (0x08), and the
fence of sequence 20 is answered OK with count 1. -/
theorem test_tick_expires :
    toClients .tick overdue = [(0, 0x2F, 0x08)] ∧ (after .tick overdue).fu.ort[3].occupied = false ∧
    (after .tick overdue).fu.ort[8].timer = 4 ∧ (after .tick overdue).fu.fences = [] := by decide +kernel

theorem test_tick_answersFence : toFabric .tick overdue = [(0x61, 0, 20, 20, [0x33, 1])] := by decide +kernel

/-- R79: UPSTREAM_TIMEOUT (0x08), or a record with code 0x0100; a running timer does not expire. -/
theorem test_upstreamTimerExpiry :
    toClients (.upstreamTimerExpiry 31) (withSlot 31 (slot .write 0) opened) = [(0, 0x2F, 0x08)] ∧
    (after (.upstreamTimerExpiry 31) (withSlot 31 (slot .postedWrite 0) opened)).fl.records.map (·.code) =
      [some 0x0100] ∧
    (after (.upstreamTimerExpiry 31) (withSlot 31 (slot .write 1) opened)).fu.ort[31].occupied = true := by
  decide +kernel

/-! ### The miss unit (05; section 11.3) -/

/-- Section 11.3, step 8: the READ and the WRITE are refused MISS_TIMEOUT (0x07), the POSTED WRITE between them is
dropped, and the record names ticket 1, address 0x00050000 and CP0; the FAULT notice goes to node 20. -/
theorem test_missTimerExpiry :
    let s := missing [missRec 1 0x50 0] [heldReq (.held 1) .read 0x50000, heldReq (.held 1) .postedWrite 0x50800,
      heldReq (.held 1) .write 0x50C00] opened
    toClients (.missTimerExpiry 1) s = [(0, 0x2F, 0x07), (0, 0x2F, 0x07)] ∧
    (after (.missTimerExpiry 1) s).fl.records.map (fun r => (r.kind, r.source)) = [(.missExpired, .port 0)] ∧
    (after (.missTimerExpiry 1) s).fl.records.map (fun r => (r.address, r.ticket)) = [(some 0x00050000, some 1)] ∧
    toFabric (.missTimerExpiry 1) s = [(0x62, 0, 20, 0, [2, 0, 0, 6, 0])] ∧
    (after (.missTimerExpiry 1) s).mu.held = [] := by decide +kernel

/-- Section 11.3, step 2: the WRITE is staged at RP. Section 11.3, end: with no entry it is refused NO_MAP (0x05). -/
theorem test_replayProcessing :
    (after .replayProcessing (missing [] [heldReq .replay .write 0x1040] opened)).mu.rp = some (stagedReq .write) ∧
    toClients .replayProcessing (missing [] [heldReq .replay .write 0x50000] opened) = [(0, 0x2F, 0x05)] ∧
    (after .replayProcessing (missing [] [heldReq .replay .write 0x50000] opened)).mu.held = [] := by decide +kernel

/-- Section 11.4, step 2: a stale READ at RP whose entry is gone is refused NO_MAP, a REFUSAL record is appended, and
the request behind it stays. -/
theorem test_rpStaleRelookup :
    let s : State := { opened with
      du := { opened.du with domains := opened.du.domains.set 0 { active with report := true } }
      tu := TransUnit.cleared
      mu := { opened.mu with held := [heldReq .replay .read 0x1040, heldReq .replay .write 0x1080],
                             rp := some (staleReq .read) } }
    toClients .rpStaleRelookup s = [(0, 0x2F, 0x05)] ∧ (after .rpStaleRelookup s).mu.rp = none ∧
    (after .rpStaleRelookup s).mu.held = [heldReq .replay .write 0x1080] ∧
    (after .rpStaleRelookup s).fl.records.map (fun r => (r.kind, r.code)) = [(.refusal, some 5)] := by decide +kernel

/-! ### Deferred replies (06, 08; sections 11.5, 11.6) -/

/-- Section 11.5, step 5: node 20 receives OK with count 1 for sequence 20; the cache names another command. -/
theorem test_fenceCompletion :
    let s : State := { opened with fu := { opened.fu with fences := [fenceRec 0 [7], fenceRec 1 []] } }
    toFabric .fenceCompletion s = [(0x61, 0, 20, 20, [0x33, 1])] ∧
    (after .fenceCompletion s).fu.fences = [fenceRec 0 [7]] := by decide +kernel

/-- Section 11.6, step 4: admission becomes QUIESCED, node 20 receives OK for sequence 30, and the OK is stored. -/
theorem test_drainCompletion :
    let s : State := { opened with mc := { opened.mc with
      admission := .draining, quiesce := some { sequence := 30, node := 20 }
      cache := some { source := 20, sequence := 30, code := 0x12, answer := .pendingQuiesce } } }
    (after .drainCompletion s).mc.admission = .quiesced ∧
    toFabric .drainCompletion s = [(0x61, 0, 20, 30, [0x12])] ∧
    (after .drainCompletion s).mc.cache.map (·.answer) = some (.stored .ok []) := by decide +kernel

/-! ### Ownership, STATUS, unknown codes (07; section 11.1) -/

/-- Section 11.1, step 4: node 20 becomes the owner, OK with next notice sequence 0; NOT_OWNER (9) from another. -/
theorem test_claim :
    (after (.claim (command 0x01 2 [])) linked).mc.owner = some 20 ∧
    toFabric (.claim (command 0x01 2 [])) linked = [(0x61, 0, 20, 2, [0x01, 0])] ∧
    reply (.claim (command 0x01 2 [])) { linked with mc := { linked.mc with owner := some 21 } } = [(9, [])] := by
  decide +kernel

/-- R139: BUSY (10) with a fence pending; otherwise CLOSED without owner, the held request refused DENIED (4). -/
theorem test_relinquish :
    let s := missing [missRec 0 0x40 5] [heldReq (.held 0) .read 0x40000] opened
    toClients (.relinquish (command 0x02 3 [])) s = [(0, 0x2F, 4)] ∧
    (after (.relinquish (command 0x02 3 [])) s).mc.owner = none ∧
    reply (.relinquish (command 0x02 3 [])) s = [(0, [])] ∧
    reply (.relinquish (command 0x02 3 []))
      { opened with fu := { opened.fu with fences := [fenceRec 0 [7]] } } = [(10, [])] := by decide +kernel

/-- Section 11.1, step 3, and R193: CLOSED, no owner, node 134, POWER and no, all five links UP, timing codes. -/
theorem test_status :
    reply (.status (command 0x03 1 [])) linked =
      [(0, [0, 0, 0, 134, 0, 0, 0x1F, 0, 0, 0, 0, 0, 0, 0, 0, 0, 0, 2, 50, 16])] ∧
    (after (.status (command 0x03 1 [])) linked).mc.cache = none := by decide +kernel

/-- R141: UNKNOWN (11) for code 0x7E; a header-only COMMAND is dropped with a CHECK_ERROR record (R181). -/
theorem test_unknownCommand :
    toFabric (.unknownCommand 20 9 [0x7E, 1] (checkWord [0x7E, 1])) opened = [(0x61, 11, 20, 9, [0x7E])] ∧
    (after (.unknownCommand 20 9 [] (checkWord [])) { opened with mc := { opened.mc with owner := none } }).fl.records.map
      (·.kind) = [.checkError] := by decide +kernel

/-! ### Admission (08; sections 11.1, 11.6) -/

/-- Section 11.1, step 8; R153: WRONG_STATE (4) from OPEN. -/
theorem test_open :
    (after (.openCmd (command 0x10 6 [])) (owned .closed)).mc.admission = .opened ∧
    reply (.openCmd (command 0x10 6 [])) (owned .opened) = [(4, [])] := by decide +kernel

/-- The part while a QUIESCE of sequence 30 waits for slot 3 (section 11.6, step 1). -/
def drainingPart : State :=
  withSlot 3 (slot .read 5) { owned .draining with mc := { (owned .draining).mc with
    quiesce := some { sequence := 30, node := 20 }
    cache := some { source := 20, sequence := 30, code := 0x12, answer := .pendingQuiesce } } }

/-- R154: from DRAINING, ABORTED (2) for sequence 30 leaves before the OK. -/
theorem test_close :
    toFabric (.close (command 0x11 31 [])) drainingPart = [(0x61, 2, 20, 30, [0x12]), (0x61, 0, 20, 31, [0x11])] ∧
    (after (.close (command 0x11 31 [])) drainingPart).mc.admission = .closed := by decide +kernel

/-- Section 11.6, step 1: DRAINING, the pending QUIESCE (30, node 20), the cache PENDING, nothing sent. -/
theorem test_quiesce :
    let s := withSlot 3 (slot .read 5) (owned .opened)
    (after (.quiesce (command 0x12 30 [])) s).mc = drainingPart.mc ∧ toFabric (.quiesce (command 0x12 30 [])) s = [] ∧
    (after (.quiesce (command 0x12 30 [])) (owned .opened)).mc.admission = .quiesced := by decide +kernel

/-- The drained part with the reply of an emptied fence record still to send. -/
def owing : State := { opened with fu := { opened.fu with fences := [fenceRec 0 []] } }

/-- `owing` after QUIESCE 30. -/
def owingWaits : State := after (.quiesce (command 0x12 30 [])) owing

/-- R125, R157: a QUIESCE taken while a fence reply is due waits for it: nothing leaves with the QUIESCE, and the drain
does not end before the fence reply of sequence 20. -/
theorem test_quiesce_owing :
    toFabric (.quiesce (command 0x12 30 [])) owing = [] ∧ owingWaits.mc.admission = .draining ∧
    toFabric .drainCompletion owingWaits = [] := by decide +kernel

/-- R157: after the fence reply of sequence 20 the OK of sequence 30 leaves. -/
theorem test_quiesce_owing_ends :
    toFabric .fenceCompletion owingWaits ++ toFabric .drainCompletion (after .fenceCompletion owingWaits) =
      [(0x61, 0, 20, 20, [0x33, 1]), (0x61, 0, 20, 30, [0x12])] := by decide +kernel

/-- Section 11.6, step 2: ABORTED (30), then OK (31); admission OPEN, no pending QUIESCE. -/
theorem test_release :
    toFabric (.release (command 0x13 31 [])) drainingPart =
      [(0x61, 2, 20, 30, [0x12]), (0x61, 0, 20, 31, [0x13])] ∧
    (after (.release (command 0x13 31 [])) drainingPart).mc.admission = .opened ∧
    (after (.release (command 0x13 31 [])) drainingPart).mc.quiesce = none := by decide +kernel

/-- Section 11.6: the repeat of QUIESCE 30 before the RELEASE is answered PENDING (1) from the cache. -/
theorem test_quiesce_repeat :
    toFabric (.quiesce (command 0x12 30 [])) drainingPart = [(0x61, 1, 20, 30, [0x12])] := by decide +kernel

/-- R64, R86, R162: queued READ and slot's READ are refused RESET (0x0C), the queue's before its CREDIT; the owner and
entry 0 stay; the cause is TRAFFIC with flag yes. -/
theorem test_resetTraffic :
    let s := withSlot 3 (slot .read 5) (queued 0 [read9] opened)
    let t := after (.resetTraffic (command 0x14 9 [1])) s
    toClients (.resetTraffic (command 0x14 9 [1])) s = [(0, 0x2F, 0x0C), (0, 0x30, 0), (0, 0x2F, 0x0C)] ∧
    t.ports[0].credits = 8 ∧ t.mc.owner = some 20 ∧ t.tu.entries[0] = entry0 ∧
    t.mc.cause = { kind := .traffic, trafficLost := true } := by decide +kernel

/-- R162 step 7: FULL also clears the owner, the tables and the log, and keeps the fault sequence counter. -/
theorem test_resetFull :
    let t := after (.resetFull (command 0x14 9 [2])) (logFault (checkErrorFault .fabric) opened)
    t.mc.owner = none ∧ t.tu.entries[0] = Entry.cleared ∧ t.du.streams[0][0] = none ∧ t.fl.records = [] ∧
    t.fl.sequence = 1 ∧ t.mc.cause = { kind := .full, trafficLost := false } := by decide +kernel

/-! ### Timing, streams, domains (04, 02; section 11.1) -/

/-- R84: code 3 is 512 us; WRONG_STATE (4) in OPEN; a timeout of 0 gets BAD_PARAM (5). -/
theorem test_setTiming :
    (after (.setTiming (command 0x18 3 [3, 255, 1])) (owned .closed)).tb =
      { period := .us512, missTimeout := 255, upstreamTimeout := 1, prescale := 0 } ∧
    reply (.setTiming (command 0x18 3 [3, 255, 1])) (owned .opened) = [(4, [])] ∧
    reply (.setTiming (command 0x18 3 [3, 0, 1])) (owned .opened) = [(5, [])] := by decide +kernel

/-- Section 11.1, step 7: previous binding UNBOUND (0xFF). R30: the stream's staged request is marked stale. -/
theorem test_bindStream :
    reply (.bindStream (command 0x20 5 [0, 0, 0])) (owned .closed) = [(0, [0xFF])] ∧
    (after (.bindStream (command 0x20 5 [0, 0, 0])) (owned .closed)).du.streams[0][0] = some 0 ∧
    (after (.bindStream (command 0x20 5 [0, 0, 1])) (opened.setStaging 0 (some (stagedReq .read)))).ports[0].staging =
      some (staleReq .read) := by decide +kernel

theorem test_readStream :
    reply (.readStream (command 0x21 5 [0, 0])) opened = [(0, [0])] ∧
    reply (.readStream (command 0x21 5 [3, 15])) opened = [(0, [0xFF])] ∧
    reply (.readStream (command 0x21 5 [4, 0])) opened = [(5, [])] := by decide +kernel

/-- Section 11.1, step 3: ACTIVE, HOLD, {R, W, P}, quota 4, limit 8, report no. -/
theorem test_setDomain :
    (after (.setDomain (command 0x22 3 [0, 0, 0, 7, 4, 8, 0])) (owned .closed)).du.domains[0] = active ∧
    reply (.setDomain (command 0x22 3 [0, 0, 0, 7, 4, 8, 0])) (owned .closed) = [(0, [])] ∧
    reply (.setDomain (command 0x22 3 [0, 0, 0, 7, 17, 8, 0])) (owned .closed) = [(5, [])] := by decide +kernel

/-- R35, R187: the six fields, then the two counts. -/
theorem test_readDomain :
    reply (.readDomain (command 0x23 3 [0])) (withSlot 3 (slot .read 5) opened) = [(0, [0, 0, 7, 4, 8, 0, 0, 1])] ∧
    reply (.readDomain (command 0x23 3 [15])) opened = [(0, [2, 1, 7, 4, 8, 0, 0, 0])] := by decide +kernel

/-! ### The Mapping Table (01; sections 11.1, 11.3 to 11.5) -/

/-- The parameters of an INSTALL for domain `d`, class S4K, permissions {R, W}, no ticket (R190). -/
def installParams (index d : Byte) (base : Addr) (node : Byte) : List Byte :=
  [index, 0x0C, 0x80 ||| d, node] ++ be32 base ++ [0, 4, 0, 0x10, 0, 0, 0xFF, 0xFF]

/-- Section 11.5, step 2: entry 8 is written for node 14, displaced no; the own node gets BAD_PARAM (5). -/
theorem test_install :
    reply (.install (command 0x30 21 (installParams 8 2 0x00300000 14))) opened = [(0, [8, 0, 0])] ∧
    (after (.install (command 0x30 21 (installParams 8 2 0x00300000 14))) opened).tu.entries[8].node = 14 ∧
    reply (.install (command 0x30 21 (installParams 8 2 0x00300000 134))) opened = [(5, [])] := by decide +kernel

/-- R13: OVERLAP (6) with entry 0 at another index, none at index 0 itself, where entry 0 is displaced. -/
theorem test_install_overlap :
    reply (.install (command 0x30 21 (installParams 1 0 0x7000 14))) opened = [(6, [])] ∧
    reply (.install (command 0x30 21 (installParams 0 0 0x7000 14))) opened = [(0, [0, 1, 0])] := by decide +kernel

/-- Section 11.3, step 1: index 1, displaced no, DONE (1); the WRITE stands in the Replay Queue. -/
theorem test_installAny :
    let s := missing [missRec 0 0x40 5] [heldReq (.held 0) .write 0x40100] opened
    let c := command 0x30 7 ((installParams 0xFF 0 0x40000 12).set 2 0 |>.set 14 0 |>.set 15 0)
    reply (.installAny c) s = [(0, [1, 0, 1])] ∧
    (after (.installAny c) s).mu.held = [heldReq .replay .write 0x40100] ∧
    (after (.installAny c) s).mu.records = [] := by decide +kernel

/-- A valid entry of domain `d` at page `n` of its own. -/
def entryOf (d : Domain) (pinned hit : Bool) (n : Nat) : Entry :=
  { entry0 with scope := .domain d, size := .s4K, clientBase := BitVec.ofNat 32 (0x100000 + n * 0x1000),
                pinned := pinned, hit := hit }

/-- The table of section 11.4: pointer 40; entry 40 pinned, 41 hit, 42 the victim. -/
def sweptTable : TransUnit :=
  { entries := Vector.ofFn fun i => entryOf (if i = 41 then 5 else 3) (decide (i = 40)) (decide (i ≠ 42)) i.val
    clock := 40 }

/-- Section 11.4, step 1: index 42, displaced yes, the pointer at 43, entry 41's flag cleared, RP's READ stale. -/
theorem test_installAny_sweep :
    let s : State := { owned .opened with
      tu := sweptTable, mu := { MissUnit.cleared with
        held := [heldReq .replay .read 0xA10000], rp := some { stagedReq .read with entry := 42 } } }
    let t := after (.installAny (command 0x30 9 (installParams 0xFF 9 0 12))) s
    reply (.installAny (command 0x30 9 (installParams 0xFF 9 0 12))) s = [(0, [42, 1, 0])] ∧
    t.tu.clock = 43 ∧ t.tu.entries[41].hit = false ∧ t.tu.entries[40].hit = true ∧
    t.mu.rp.map (·.stale) = some true := by decide +kernel

/-- R21: on, the pinned field and the count; an invalid entry gets BAD_PARAM (5). -/
theorem test_setPin :
    reply (.setPin (command 0x31 9 [0, 1])) opened = [(0, [1, 1])] ∧
    (after (.setPin (command 0x31 9 [0, 1])) opened).tu.entries[0].pinned = true ∧
    reply (.setPin (command 0x31 9 [1, 1])) opened = [(5, [])] := by decide +kernel

/-- R22, R190. -/
theorem test_readEntry :
    reply (.readEntry (command 0x32 9 [0])) opened =
      [(0, [0, 0x8C, 0x90, 12, 0, 0, 0, 0, 0, 4, 0, 0, 0, 0, 0xFF, 0xFF])] ∧
    reply (.readEntry (command 0x32 9 [64])) opened = [(5, [])] := by decide +kernel

/-! ### INVALIDATE and FENCE (06; section 11.5) -/

/-- The parameters of an INVALIDATE (R187). -/
def invalidateParams (selector fence x : Byte) (base length : Addr) : List Byte :=
  [selector, fence, x] ++ be32 base ++ be32 length

/-- The part of section 11.5: slots 5 and 12 occupied, entry 0 in the place of entry 8. -/
def inFlight : State := withSlot 5 (slot .read 5) (withSlot 12 (slot .write 5) opened)

/-- Section 11.5, step 1: the entry becomes invalid, slots 5 and 12 are captured with count 1, nothing is sent, and the
cache is PENDING. -/
theorem test_invalidateIndex :
    let t := after (.invalidateIndex (command 0x33 20 (invalidateParams 1 1 0 0 0))) inFlight
    t.tu.entries[0].valid = false ∧ t.fu.fences = [fenceRec 0 [5, 12]] ∧ t.sent = [] ∧
    t.mc.cache.map (·.answer) = some (.pendingFence 0) := by decide +kernel

/-- R115: OK with the count; R125, R121: BUSY (10) with four fences pending, and the entry stays. -/
theorem test_invalidateDomain :
    reply (.invalidateDomain (command 0x33 20 (invalidateParams 2 0 0 0 0))) opened = [(0, [1])] ∧
    reply (.invalidateDomain (command 0x33 20 (invalidateParams 2 0 1 0 0))) opened = [(0, [0])] ∧
    reply (.invalidateDomain (command 0x33 20 (invalidateParams 2 1 0 0 0)))
      { opened with fu := { opened.fu with
        fences := [fenceRec 0 [7], fenceRec 1 [7], fenceRec 2 [7], fenceRec 3 [7]] } } = [(10, [])] := by
  decide +kernel

/-- R115: the last byte of entry 0 overlaps, the byte behind it does not; an empty range gets BAD_PARAM (5). -/
theorem test_invalidateRange :
    reply (.invalidateRange (command 0x33 20 (invalidateParams 3 0 0 0x7FFF 1))) opened = [(0, [1])] ∧
    reply (.invalidateRange (command 0x33 20 (invalidateParams 3 0 0 0x8000 1))) opened = [(0, [0])] ∧
    reply (.invalidateRange (command 0x33 20 (invalidateParams 3 0 0xFF 0 0x8000))) opened = [(0, [0])] ∧
    reply (.invalidateRange (command 0x33 20 (invalidateParams 3 0 0 0 0))) opened = [(5, [])] := by decide +kernel

/-- R115: pinned entries are not named. -/
theorem test_invalidateUnpinned :
    reply (.invalidateUnpinned (command 0x33 20 (invalidateParams 4 0 0 0 0)))
      { opened with tu := sweptTable } = [(0, [63])] ∧
    (after (.invalidateUnpinned (command 0x33 20 (invalidateParams 4 0 0 0 0)))
      { opened with tu := sweptTable }).tu.entries[40].valid = true := by decide +kernel

theorem test_invalidateAll :
    reply (.invalidateAll (command 0x33 20 (invalidateParams 5 0 0 0 0))) { opened with tu := sweptTable } =
      [(0, [64])] := by decide +kernel

/-- R121: deferred with slots captured and count 0, OK with 0 at once on an empty ORT. -/
theorem test_fence :
    (after (.fence (command 0x34 20 [])) inFlight).fu.fences =
      [{ fenceRec 0 [5, 12] with command := .fence, count := 0 }] ∧
    reply (.fence (command 0x34 20 [])) opened = [(0, [0])] := by decide +kernel

/-! ### RESOLVE, READ MISSES, LOG READ (05, 09; section 11.3) -/

/-- Section 11.3, step 9: STALE (8); a live ticket's request moves to the Replay Queue. -/
theorem test_resolveRetry :
    reply (.resolveRetry (command 0x40 9 [0, 1, 1])) opened = [(8, [])] ∧
    (after (.resolveRetry (command 0x40 9 [0, 1, 1]))
      (missing [missRec 1 0x50 5] [heldReq (.held 1) .read 0x50000] opened)).mu.held =
        [heldReq .replay .read 0x50000] ∧
    reply (.resolveRetry (command 0x40 9 [0, 1, 3])) opened = [(5, [])] := by decide +kernel

/-- R101, R195: the refusal DENIED (4) and then the reply with the number of requests. -/
theorem test_resolveDeny :
    let s := missing [missRec 1 0x50 5] [heldReq (.held 1) .read 0x50000, heldReq (.held 1) .write 0x50800] opened
    toClients (.resolveDeny (command 0x40 9 [0, 1, 2])) s = [(0, 0x2F, 4), (0, 0x2F, 4)] ∧
    reply (.resolveDeny (command 0x40 9 [0, 1, 2])) s = [(0, [2])] ∧
    (after (.resolveDeny (command 0x40 9 [0, 1, 2])) s).mu.records = [] := by decide +kernel

/-- R110, R191: live records, records returned, then ticket, domain, page, wanted, first requester, held, timer. -/
theorem test_readMisses :
    reply (.readMisses (command 0x41 9 [0]))
      (missing [missRec 1 0x50 7] [heldReq (.held 1) .read 0x50000] opened) =
        [(0, [1, 1, 0, 1, 0, 0, 0, 0x50, 4, 0, 0, 1, 7])] ∧
    reply (.readMisses (command 0x41 9 [16])) opened = [(5, [])] := by decide +kernel

/-- R177, R192: one record of an UNSOLICITED packet of node 9, the overflow count 0, none left. -/
theorem test_logRead :
    reply (.logRead (command 0x50 9 [4])) (logFault (unsolicitedFault 9) opened) =
      [(0, [1, 0, 0, 0, 0, 0, 8, 4, 1, 0, 0, 0, 0, 0, 0, 0, 0, 0, 0, 9])] ∧
    reply (.logRead (command 0x50 9 [0])) opened = [(5, [])] := by decide +kernel

/-! ### The step -/

/-- On an empty queue an expired slot is taken before a clock cycle passes (log entry 2). -/
theorem test_step_due :
    (match step overdue with | .next t => (t.fu.ort[3].occupied, t.tb.prescale) | _ => (true, 9)) = (false, 0) := by
  decide +kernel

/-- The front is run with the queue's rest; an empty queue with nothing due is one reference clock cycle (log entry
2). -/
theorem test_step :
    step { State.reset with pending := [.fabricLinkUp, .tick] } =
      .next { State.reset with fabric := .up, pending := [.tick] } ∧
    (match step State.reset with | .next t => t.tb.prescale | _ => 0) = 1 := ⟨rfl, by decide +kernel⟩

/-- No word of the table spells a command (log entry 18). -/
theorem test_decodeTableWord : decodeTableWord 8 0x03 = none := rfl

/-! ### Witnesses: when a COMMAND reaches its execution -/

/-- R131: with an empty replay cache every command is fresh. -/
theorem fresh_of_empty {c : Command} {s : State} (h : s.mc.cache = none) : Fresh c s := by
  intro e he
  rw [h] at he
  cases he

/-- A command of node 20 reaches its execution in any part of node 134 that node 20 owns, the cache being empty. -/
theorem fromOwner_of {code sequence : Byte} {params : List Byte} {s : State} (hf : s.fabric = .up)
    (hn : s.ownNode = 134) (hc : s.mc.cache = none) (ho : s.mc.owner = some 20) :
    FromOwner code (command code sequence params) s :=
  ⟨⟨hf, rfl, by rw [hn]; exact (by decide : (20 : Byte) ≠ 134)⟩, fresh_of_empty hc, ho⟩

/-- A command of node 20 reaches its execution in `owned`. -/
theorem fromOwner_owned (code sequence : Byte) (params : List Byte) (a : Admission) :
    FromOwner code (command code sequence params) (owned a) :=
  fromOwner_of rfl rfl rfl rfl

/-- A command of node 20 reaches its execution in `opened`. -/
theorem fromOwner_opened (code sequence : Byte) (params : List Byte) :
    FromOwner code (command code sequence params) opened :=
  fromOwner_of rfl rfl rfl rfl

/-- Section 11.6: with the entry (20, 30) in the cache a command of sequence 31 is fresh. -/
theorem fresh_drainingPart (code : Byte) : Fresh (command code 31 []) drainingPart := by
  intro e he _
  cases he
  exact (by decide : (30 : Byte) ≠ 31)

/-- A command of sequence 31 reaches its execution in `drainingPart`. -/
theorem fromOwner_draining (code : Byte) : FromOwner code (command code 31 []) drainingPart :=
  ⟨⟨rfl, rfl, (by decide : (20 : Byte) ≠ 134)⟩, fresh_drainingPart code, rfl⟩

/-! ### Witnesses: power and links -/

/-- RSTN high; RSTN low with either flag; clearing, behind POWER_ON. -/
theorem witness_StartUpClears :
    (∀ lost, (queued 0 [read9] opened).phase ≠ .inReset lost) ∧
    (after .pinResetAssert (queued 0 [read9] opened)).phase = .inReset true ∧
    (after .pinResetAssert opened).phase = .inReset false ∧ (after (.powerOn 15) opened).phase = .clearing :=
  ⟨nofun, by decide +kernel, by decide +kernel, rfl⟩

theorem witness_LinksComeUp :
    State.reset.phase = .running ∧ State.reset.ports[(0 : Port)].link = .down ∧
    State.reset.ports[(3 : Port)].link = .down := by decide +kernel

theorem witness_ClientLinkTeardown :
    (withSlot 9 (slot .read 5) opened).ports[(0 : Port)].link = .up ∧ opened.ports[(3 : Port)].link = .up := by
  decide +kernel

theorem witness_FabricLinkLossTeardown : (withSlot 9 (slot .postedWrite 5) opened).fabric = .up := rfl

/-! ### Witnesses: client ports and misses -/

theorem witness_ArrivalUsesCredit :
    let header : List Byte := [0x11, 0, 0x11, 0, 0, 64, 0, 0, 0x10, 0x40]
    let full := queued 0 (List.replicate 8 read9) opened
    let nearlyFull := queued 0 (List.replicate 7 read9) opened
    (full.ports[(0 : Port)].link = .up ∧ full.ports[(0 : Port)].credits = 0) ∧
    (nearlyFull.ports[(0 : Port)].link = .up ∧ nearlyFull.ports[(0 : Port)].credits = 1) ∧
    checkWord header ≠ 0 ∧ (List.replicate 256 (0 : Byte)).length ≤ 256 ∧ ([] : List Byte).length ≤ 256 ∧
    ∀ n ∈ [0, 11, 13, 14, 271], (List.replicate n (0 : Byte)).length ≠ 12 ∧
      ((List.replicate n (0 : Byte)).length < 15 ∨ 270 < (List.replicate n (0 : Byte)).length) := by
  decide +kernel

/-- R54: a length of 256 that ends with its page passes; 257, and one byte past the page, do not. -/
theorem witness_MalformedExactly :
    ((packet 0x11 15 0 256 0xFFFFFF00 []).request 3).isSome = true ∧
    ((packet 0x13 15 0 1 0xFFF [7]).request 3).isSome = true ∧
    (packet 0x11 16 0 256 0xFFFFFF00 []).request 3 = none ∧ (packet 0x11 0 0 257 0 []).request 3 = none ∧
    (packet 0x11 0 0 256 0xF01 []).request 3 = none ∧ (packet 0x11 0 0 0 0 []).request 3 = none ∧
    (packet 0x12 0 0 2 0 [7]).request 3 = none ∧ (packet 0x30 0 0 1 0 []).request 3 = none ∧
    (packet 0x11 0 0 1 0 [7]).request 3 = none := by decide +kernel

/-- A POSTED WRITE whose payload check is 0. -/
def badPosted : RxPacket := { packet 0x13 0 1 1 0 [7] with payload := some { bytes := [7], check := 0 } }

theorem witness_MalformedHead :
    (∀ pkt ∈ [packet 0x30 0 0 1 0 [], packet 0x13 16 0 1 0 [7], packet 0x13 0 0 1 0 [], badPosted],
      (queued 0 [pkt] opened).HeadAt 0 pkt [] ∧ pkt.request 0 = none) ∧
    (packet 0x30 0 0 1 0 []).kind ≠ 0x13 ∧ checkWord [7] ≠ 0 ∧ badPosted.kind = 0x13 := by decide +kernel

/-- `opened` with domain 0 at a record. -/
def withDomain (r : DomainRec) (s : State) : State :=
  { s with du := { s.du with domains := s.du.domains.set 0 r } }

theorem witness_HeadRefusals :
    read9.request 0 = some (request .read 0x1040 []) ∧
    (∀ a ∈ [Admission.closed, .draining, .quiesced],
      (queued 0 [read9] (owned a)).HeadAt 0 read9 [] ∧ (queued 0 [read9] (owned a)).mc.admission = a) ∧
    (owned .opened).du.streams[(0 : Port)][(0 : Stream)] = none ∧
    opened.du.streams[(0 : Port)][(0 : Stream)] = some 0 ∧
    (∀ st ∈ [DomainState.paused, .barred],
      (queued 0 [read9] (withDomain { active with state := st } opened)).HeadAt 0 read9 [] ∧
      (queued 0 [read9] (withDomain { active with state := st } opened)).du.domains[(0 : Domain)].state = st) := by
  decide +kernel

/-- A head of each kind at the first and the last page of entry 0, which allows READ and WRITE. -/
theorem witness_HeadLookup :
    let last := packet 0x11 0 0x11 64 0x00007FC0 []
    let posted := packet 0x13 0 0x11 1 0 [7]
    (∀ pkt ∈ [read9, last, posted],
      (queued 0 [pkt] opened).HeadAt 0 pkt [] ∧ (queued 0 [pkt] opened).mc.admission = .opened ∧
      (pkt.request 0).isSome = true ∧ (queued 0 [pkt] opened).tu.entries[(0 : EntryIndex)].matchesAt 0 pkt.address) ∧
    opened.du.domains[(0 : Domain)].state = .active ∧ opened.OverlapLaw ∧
    Permits .read opened.tu.entries[(0 : EntryIndex)].perms opened.du.domains[(0 : Domain)].ceiling ∧
    ¬ Permits .postedWrite opened.tu.entries[(0 : EntryIndex)].perms opened.du.domains[(0 : Domain)].ceiling ∧
    (∀ p : Port, ∀ q ∈ opened.ports[p].staging, q.stale) := by
  refine ⟨?_, ?_, ?_, ?_, ?_, ?_⟩ <;> decide +kernel

/-- A READ of page 0x00050, which no entry covers. -/
def missPacket : RxPacket := packet 0x11 0 0x11 64 0x00050000 []

/-- The Held Store with `n` requests held under ticket 1 for page 0x00050. -/
def holding (n : Nat) : List HeldReq := List.replicate n (heldReq (.held 1) .read 0x50000)

/-- The Miss List with `n` records of other pages, tickets from 2 up. -/
def otherRecords (n : Nat) : List MissRec :=
  (List.range n).map fun k => missRec (BitVec.ofNat 16 (k + 2)) (BitVec.ofNat 20 (k + 0x60)) 5

/-- The heads of R93: FAIL; no owner; a live record with 31 and with 32 held; 16 records; the quota met exactly; a full
Held Store; and room, with the ticket counter at a live ticket. -/
theorem witness_HeadMiss :
    (∀ s ∈ [withDomain { active with policy := .fail } opened,
            { opened with mc := { opened.mc with owner := none } },
            missing [missRec 1 0x50 5] (holding 31) opened, missing [missRec 1 0x50 5] (holding 32) opened,
            missing (otherRecords 16) [] (withDomain { active with quota := 16 } opened),
            missing (otherRecords 4) [] opened, missing [] (holding 32) opened,
            missing (otherRecords 3) [] { opened with mu := { opened.mu with ticket := 2 } }],
      (queued 0 [missPacket] s).HeadAt 0 missPacket [] ∧ s.mc.admission = .opened ∧ s.Misses 0 0x00050000 ∧
      s.du.domains[(0 : Domain)].state = .active ∧ s.du.streams[(0 : Port)][(0 : Stream)] = some 0) ∧
    missPacket.request 0 = some (request .read 0x00050000 []) ∧ opened.du.domains[(0 : Domain)].policy = .hold ∧
    (missing [missRec 1 0x50 5] (holding 31) opened).RecordLaw ∧
    (missRec 1 0x50 5).page = (0x00050000 : Addr).extractLsb' 12 20 ∧
    (∀ m ∈ otherRecords 16, m.page ≠ (0x00050000 : Addr).extractLsb' 12 20) := by
  refine ⟨?_, ?_, ?_, ?_, ?_, ?_⟩ <;> decide +kernel

theorem witness_PortRelookup :
    (∀ k ∈ [ReqKind.read, .postedWrite],
      (opened.setStaging 0 (some (staleReq k))).ports[(0 : Port)].staging = some (staleReq k) ∧
      (staleReq k).stale = true) ∧
    ((owned .opened).setStaging 0 (some (staleReq .read))).du.streams[(0 : Port)][(0 : Stream)] = none ∧
    opened.OverlapLaw ∧ opened.tu.entries[(0 : EntryIndex)].matchesAt 0 0x1040 = true ∧
    Permits .read opened.tu.entries[(0 : EntryIndex)].perms opened.du.domains[(0 : Domain)].ceiling ∧
    ¬ Permits .postedWrite opened.tu.entries[(0 : EntryIndex)].perms opened.du.domains[(0 : Domain)].ceiling ∧
    State.Misses 0 0x1040 { opened with tu := TransUnit.cleared } ∧
    (withDomain { active with state := .paused } opened).du.domains[(0 : Domain)].state = .paused ∧
    (withDomain { active with state := .barred } opened).du.domains[(0 : Domain)].state = .barred := by
  refine ⟨?_, ?_, ?_, ?_, ?_, ?_, ?_, ?_, ?_⟩ <;> decide +kernel

/-! ### Witnesses: forwarding -/

/-- Section 11.1, step 10, and the last slot for RP from a pointer at CP3. -/
theorem witness_GrantInRotation_granted :
    let s := opened.setStaging 0 (some (stagedReq .read))
    let u : State := { fullOrt (slot .read 5) (withDomain { active with limit := 32 } opened) with
      mu := { opened.mu with rp := some (stagedReq .write), held := [heldReq .replay .write 0x1040] } }
    let last : State := withSlot 31 Slot.cleared { u with fu := { u.fu with pointer := .cp 3 } }
    (s.fabric = .up ∧ s.Ready (.cp 0) (stagedReq .read) ∧
      (∀ w' q', s.Ready w' q' → Requester.after s.fu.pointer (.cp 0) ≤ Requester.after s.fu.pointer w') ∧
      s.fu.ort[(0 : SlotIndex)].occupied = false) ∧
    (last.fabric = .up ∧ last.Ready .rp (stagedReq .write) ∧
      (∀ w' q', last.Ready w' q' → Requester.after last.fu.pointer .rp ≤ Requester.after last.fu.pointer w') ∧
      last.fu.ort[(31 : SlotIndex)].occupied = false ∧ ∀ j < (31 : SlotIndex), last.fu.ort[j].occupied = true) := by
  refine ⟨⟨rfl, by decide +kernel, fun _ _ _ => Nat.zero_le _, by decide +kernel⟩, rfl, by decide +kernel,
    fun _ _ _ => Nat.zero_le _, by decide +kernel, by decide +kernel⟩

/-- No request staged; every slot occupied with one staged; the fabric link DOWN. -/
theorem witness_GrantInRotation_none :
    (∀ w q, ¬ opened.Ready w q) ∧
    (∀ i : SlotIndex,
      (fullOrt (slot .read 5) (opened.setStaging 0 (some (stagedReq .read)))).fu.ort[i].occupied = true) ∧
    State.reset.fabric = .down := by
  refine ⟨?_, by decide +kernel, rfl⟩
  rintro (p | _) q ⟨h, -⟩
  · have none_staged : ∀ p : Port, opened.ports[p].staging = none := by decide +kernel
    rw [State.stagedAt, none_staged p] at h
    cases h
  · cases h

/-- The response of each kind for the first and the last slot, tags 1 and 249. -/
theorem witness_ResponseEndsRequest :
    (∀ k ∈ [ReqKind.read, .write, .postedWrite],
      (withSlot 0 (slot k 5) opened).Answers (response 1 [5, 6]) 0 ∧
      (withSlot 31 (slot k 5) opened).Answers (response 249 [5, 6]) 31 ∧ (slot k 5).kind = k) ∧
    (response 1 [5, 6]).address.toNat < 2 ^ 44 ∧
    ({ response 1 [] with address := 0x0FFFFFFFFFFF } : Response).address.toNat < 2 ^ 44 ∧
    (response 1 [5, 6]).payload = some { bytes := [5, 6], check := checkWord [5, 6] } ∧
    ([5, 6] : List Byte).length = (slot .read 5).length.toNat ∧ checkWord [5, 6] ≠ 0 := by decide +kernel

theorem witness_ResponseBreaksProtocol :
    (withSlot 31 (slot .write 5) opened).Answers { response 249 [5, 6] with address := 0x100000000000 } 31 ∧
    2 ^ 44 ≤ ({ response 249 [] with address := 0x100000000000 } : Response).address.toNat ∧
    (withSlot 0 (slot .read 5) opened).Answers (response 1 [5]) 0 ∧ (response 1 []).payload = none ∧
    ([5] : List Byte).length ≠ (slot .read 5).length.toNat ∧ (slot .write 5).kind ≠ .read ∧
    (slot .postedWrite 5).kind ≠ .read ∧ (slot .read 5).kind = .read := by decide +kernel

/-- Section 11.7's kinds of strays: a free slot, another incarnation, another node. -/
theorem witness_StraysAndDrops :
    opened.fabric = .up ∧ (∀ i, ¬ opened.Answers (response 1 []) i) ∧
    (∀ i, ¬ (withSlot 0 (slot .read 5) opened).Answers (response 2 []) i) ∧
    (∀ i, ¬ (withSlot 0 (slot .read 5) opened).Answers { response 1 [] with source := 13 } i) := by decide +kernel

/-- The state with `n` records in the Fault Log. -/
def logged (n : Nat) (s : State) : State :=
  { s with fl := { s.fl with records := List.replicate n (overrunFault 0) } }

theorem witness_FaultIsLogged :
    (logged 16 opened).fabric = .up ∧ 16 ≤ (logged 16 opened).fl.records.length ∧
    (logged 15 opened).fl.records.length < 16 ∧ (logged 15 opened).fl.records ≠ [] ∧
    (logged 1 opened).fl.records ≠ [] ∧ linked.mc.owner = none ∧ linked.fl.records = [] ∧
    opened.fl.records = [] ∧ opened.mc.owner = some 20 ∧ opened.fabric = .up ∧ linked.fabric = .up := by
  decide +kernel

/-- Nothing due, with a timer at 1 and one at 255; and an expired slot, whose expiry goes on. -/
theorem witness_TickLowersTimers :
    (let s := withSlot 0 (slot .read 1) (withSlot 1 (slot .read 255) opened)
     s.phase = .running ∧ s.timed = []) ∧
    overdue.phase = .running ∧ overdue.timed = [.upstreamTimerExpiry 3] ∧
    ∃ u, exec (.upstreamTimerExpiry 3) overdue = .next u :=
  ⟨by decide +kernel, rfl, by decide +kernel, _, rfl⟩

/-- An event due; and with none, one cycle short of a tick, and at it, for every period. -/
theorem witness_IdleStepCountsCycles :
    (overdue.pending = [] ∧ overdue.due = [.upstreamTimerExpiry 3]) ∧
    ∀ x ∈ [(TickPeriod.us1, 25), (.us8, 200), (.us64, 1600), (.us512, 12800)],
      let at' (n : Nat) : State := { opened with tb := { opened.tb with period := x.1, prescale := n } }
      (at' 0).pending = [] ∧ (at' 0).due = [] ∧ (at' 0).phase = .running ∧ x.1.prescale = x.2 ∧
      (at' (x.2 - 2)).tb.prescale + 1 < x.2 ∧ x.2 ≤ (at' (x.2 - 1)).tb.prescale + 1 := by decide +kernel

theorem witness_TimersExpire :
    (∀ k ∈ [ReqKind.read, .write, .postedWrite],
      (withSlot 31 (slot k 0) opened).fu.ort[(31 : SlotIndex)].occupied = true ∧
      (withSlot 31 (slot k 0) opened).fu.ort[(31 : SlotIndex)].timer = 0 ∧
      (withSlot 31 (slot k 0) opened).fu.ort[(31 : SlotIndex)].kind = k) ∧
    missRec 1 0x50 0 ∈ (missing [missRec 0 0x40 5, missRec 1 0x50 0] (holding 2) opened).mu.records ∧
    (missing [missRec 0 0x40 5, missRec 1 0x50 0] (holding 2) opened).RecordLaw ∧ (missRec 1 0x50 0).timer = 0 := by
  decide +kernel

/-- A waiting Replay Queue, and a stale request at RP, under each state of the domain. -/
theorem witness_ReplayIsJudged :
    let waiting := missing [] [heldReq .replay .read 0x1040, heldReq .replay .postedWrite 0x1040] opened
    let stale : State := { waiting with mu := { waiting.mu with rp := some (staleReq .read) } }
    (waiting.mu.rp = none ∧ waiting.replays = [heldReq .replay .read 0x1040, heldReq .replay .postedWrite 0x1040] ∧
      (heldReq .replay .read 0x1040).req = request .read 0x1040 [] ∧
      (heldReq .replay .read 0x1040).domain = 0) ∧
    (stale.mu.rp = some (staleReq .read) ∧ (staleReq .read).stale = true ∧
      (staleReq .read).req = request .read 0x1040 [] ∧ (staleReq .read).domain = 0) ∧
    (∀ st ∈ [DomainState.paused, .barred, .active],
      (withDomain { active with state := st } waiting).du.domains[(0 : Domain)].state = st) ∧
    waiting.OverlapLaw ∧ waiting.tu.entries[(0 : EntryIndex)].matchesAt 0 0x1040 = true ∧
    State.Misses 0 0x1040 { waiting with tu := TransUnit.cleared } ∧
    Permits .read waiting.tu.entries[(0 : EntryIndex)].perms waiting.du.domains[(0 : Domain)].ceiling ∧
    ¬ Permits .postedWrite waiting.tu.entries[(0 : EntryIndex)].perms waiting.du.domains[(0 : Domain)].ceiling := by
  refine ⟨?_, ?_, ?_, ?_, ?_, ?_, ?_, ?_⟩ <;> decide +kernel

theorem witness_DeferredRepliesComplete :
    (opened.fabric = .up ∧
      [fenceRec 0 [7], fenceRec 1 [], fenceRec 2 []] = [fenceRec 0 [7]] ++ fenceRec 1 [] :: [fenceRec 2 []] ∧
      (∀ g ∈ [fenceRec 0 [7]], g.captured ≠ []) ∧ (fenceRec 1 []).captured = []) ∧
    (drainingPart.fabric = .up ∧ drainingPart.mc.admission = .draining ∧
      drainingPart.mc.quiesce = some { sequence := 30, node := 20 } ∧ drainingPart.fu.fences = []) ∧
    ¬ drainingPart.Empty ∧ (withSlot 3 Slot.cleared drainingPart).Empty := by
  refine ⟨?_, ?_, ?_, ?_⟩ <;> decide +kernel

/-! ### Witnesses: COMMAND packets -/

/-- A command of node 21, which is not the owner. -/
def stranger (code : Byte) : Command := { source := 21, sequence := 1, params := [], check := checkWord [code] }

theorem witness_CommandTurnedAway :
    (∀ x ∈ commandRows, (x.1, x.2) ∈ commandRows) ∧ opened.fabric = .up ∧
    (∀ code ∈ catalogue, ({ command code 1 [] with check := checkWord [code] + 1 } : Command).check ≠ checkWord [code]) ∧
    ({ command 0x02 1 [] with source := 134 } : Command).source = opened.ownNode ∧
    (∀ code ∈ catalogue, Intact code (stranger code) opened) ∧ (∀ code, Fresh (stranger code) opened) ∧
    opened.mc.owner ≠ some (stranger 0x02).source := by
  refine ⟨fun x hx => hx, rfl, ?_, ?_, ?_, fun _ => fresh_of_empty rfl, ?_⟩ <;> decide +kernel

/-- Each of the three answers a cache entry can hold, for a repeat of (20, 30). -/
theorem witness_RepeatIsAnsweredFromCache :
    ∀ a ∈ [Answer.stored .ok [1], .pendingFence 0, .pendingQuiesce],
      let e : CacheEntry := { source := 20, sequence := 30, code := 0x12, answer := a }
      Intact 0x12 (command 0x12 30 []) (drainingPart.setCache (some e)) ∧
      (drainingPart.setCache (some e)).mc.cache = some e ∧ e.source = (command 0x12 30 []).source ∧
      e.sequence = (command 0x12 30 []).sequence := by decide +kernel

/-- Every owner row has one width, and a command one byte shorter or longer misses it; CLAIM and STATUS with one
parameter byte, from the owner, from another node, and where there is no owner. -/
theorem witness_WrongWidth :
    (ownerRows.all fun x => (paramWidth.filter fun y => y.1 = x.1).length = 1) = true ∧
    FromOwner 0x30 (command 0x30 1 (List.replicate 15 0)) opened ∧ (List.replicate 15 (0 : Byte)).length ≠ 16 ∧
    FromOwner 0x10 (command 0x10 1 [0]) opened ∧ ([0] : List Byte).length ≠ 0 ∧
    (∀ s ∈ [opened, linked, { opened with mc := { opened.mc with owner := some 21 } }], s.mc.cache = none ∧
      ∀ code ∈ [(0x01 : Byte), 0x03], Intact code (command code 1 [0]) s ∧ (command code 1 [0]).params ≠ []) ∧
    (∀ code s, s.mc.cache = none → Fresh (command code 1 [0]) s) ∧
    opened.mc.owner = some (command 0x01 1 [0]).source ∧ linked.mc.owner = none :=
  ⟨by decide, fromOwner_opened _ _ _, by decide, fromOwner_opened _ _ _, by decide, by decide +kernel,
   fun _ _ h => fresh_of_empty h, rfl, rfl⟩

/-- The least and the greatest unknown code; a bad check; the part's own node; the sequence of a cached QUIESCE. -/
theorem witness_UnknownCode :
    FromOwner 0x00 (command 0x00 1 []) opened ∧ FromOwner 0xFF (command 0xFF 1 [1]) opened ∧
    (Intact 0xFF (stranger 0xFF) opened ∧ Fresh (stranger 0xFF) opened ∧
      opened.mc.owner ≠ some (stranger 0xFF).source) ∧
    opened.fabric = .up ∧ (stranger 0xFE).check ≠ checkWord (0xFF :: (stranger 0xFE).params) ∧
    (∀ code ∈ [(0x00 : Byte), 0xFF],
      ({ command code 1 [] with source := 134 } : Command).check = checkWord [code] ∧
      ({ command code 1 [] with source := 134 } : Command).source = opened.ownNode ∧
      Intact code (command code 30 []) drainingPart ∧
      drainingPart.mc.cache = some { source := 20, sequence := 30, code := 0x12, answer := .pendingQuiesce }) :=
  ⟨fromOwner_opened _ _ _, fromOwner_opened _ _ _, ⟨by decide +kernel, fresh_of_empty rfl, by decide⟩, rfl,
   by decide +kernel, by decide +kernel⟩

/-! ### Witnesses: ownership and admission -/

theorem witness_ClaimDecides :
    (∀ s ∈ [linked, opened, { linked with mc := { linked.mc with owner := some 21 } }],
      Intact 0x01 (command 0x01 2 []) s ∧ s.mc.cache = none) ∧ (∀ s, s.mc.cache = none → Fresh (command 0x01 2 []) s) ∧
    linked.mc.owner = none ∧ opened.mc.owner = some (command 0x01 2 []).source ∧
    (21 : Byte) ≠ (command 0x01 2 []).source :=
  ⟨by decide +kernel, fun _ h => fresh_of_empty h, rfl, rfl, by decide⟩

theorem witness_RelinquishDenies :
    FromOwner 0x02 (command 0x02 31 []) opened ∧ opened.fu.fences = [] ∧ opened.mc.quiesce = none ∧
    FromOwner 0x02 (command 0x02 31 []) drainingPart ∧ drainingPart.mc.quiesce ≠ none ∧
    FromOwner 0x02 (command 0x02 31 []) { opened with fu := { opened.fu with fences := [fenceRec 0 [7]] } } ∧
    FromOwner 0x02 (command 0x02 31 []) (missing [missRec 1 0x50 5] (holding 2) opened) :=
  ⟨fromOwner_opened _ _ _, rfl, rfl, fromOwner_draining _, nofun, fromOwner_of rfl rfl rfl rfl,
   fromOwner_of rfl rfl rfl rfl⟩

theorem witness_StatusReports :
    (Intact 0x03 (command 0x03 1 []) opened ∧ Fresh (command 0x03 1 []) opened ∧
      opened.mc.owner = some (command 0x03 1 []).source) ∧
    Intact 0x03 (command 0x03 1 []) linked ∧ Fresh (command 0x03 1 []) linked ∧
      linked.mc.owner ≠ some (command 0x03 1 []).source :=
  ⟨⟨by decide +kernel, fresh_of_empty rfl, rfl⟩, by decide +kernel, fresh_of_empty rfl, nofun⟩

/-- Each admission state, DRAINING with its pending QUIESCE, under each of the three commands. -/
theorem witness_OpenCloseRelease :
    (∀ code, ∀ a ∈ [Admission.closed, .opened, .quiesced],
      FromOwner code (command code 31 []) (owned a) ∧ (owned a).mc.admission = a) ∧
    (∀ code, FromOwner code (command code 31 []) drainingPart) ∧ drainingPart.mc.admission = .draining ∧
    drainingPart.mc.quiesce = some { sequence := 30, node := 20 } :=
  ⟨fun _ _ _ => ⟨fromOwner_owned _ _ _ _, rfl⟩, fun _ => fromOwner_draining _, rfl, rfl⟩

/-- The part drained; with its last slot occupied; and drained with an emptied fence record still to answer. -/
theorem witness_QuiesceDecides :
    FromOwner 0x12 (command 0x12 30 []) opened ∧ opened.Quiet ∧
    FromOwner 0x12 (command 0x12 30 []) (withSlot 31 (slot .read 5) opened) ∧
    ¬ (withSlot 31 (slot .read 5) opened).Quiet ∧ (withSlot 31 (slot .read 5) opened).mc.admission = .opened ∧
    FromOwner 0x12 (command 0x12 30 []) owing ∧ owing.Empty ∧ ¬ owing.Quiet ∧ owing.mc.admission = .opened ∧
    FromOwner 0x12 (command 0x12 31 []) drainingPart ∧ drainingPart.mc.admission = .draining ∧
    FromOwner 0x12 (command 0x12 31 []) (owned .quiesced) ∧ FromOwner 0x12 (command 0x12 31 []) (owned .closed) := by
  refine ⟨fromOwner_opened _ _ _, ?_, fromOwner_of rfl rfl rfl rfl, ?_, rfl, fromOwner_of rfl rfl rfl rfl, ?_, ?_, rfl,
    fromOwner_draining _, rfl, fromOwner_owned _ _ _ _, fromOwner_owned _ _ _ _⟩ <;> decide +kernel

/-- A part with traffic everywhere: a queue, a staged request, the ORT, a fence, a held request. -/
def busyPart : State :=
  let s := missing [missRec 1 0x50 5] (holding 2) (withSlot 5 (slot .postedWrite 5) (queued 1 [read9] opened))
  { s.setStaging 0 (some (stagedReq .read)) with
    fu := { s.fu with fences := [fenceRec 0 [5]], nextFence := 1 } }

theorem witness_ResetTrafficEndsTraffic :
    FromOwner 0x14 (command 0x14 9 [1]) busyPart ∧ (command 0x14 9 [1]).params = [1] ∧ busyPart.FenceLaw ∧
    ∀ k ∈ [(0 : Byte), 3, 255], FromOwner 0x14 (command 0x14 9 [k]) busyPart ∧ k ≠ 1 :=
  ⟨fromOwner_of rfl rfl rfl rfl, rfl, by decide +kernel,
   fun k hk => ⟨fromOwner_of rfl rfl rfl rfl, by rintro rfl; exact absurd hk (by decide)⟩⟩

theorem witness_ResetFullClears :
    FromOwner 0x14 (command 0x14 9 [2]) busyPart ∧ (command 0x14 9 [2]).params = [2] ∧ busyPart.FenceLaw :=
  ⟨fromOwner_of rfl rfl rfl rfl, rfl, by decide +kernel⟩

/-! ### Witnesses: timing, streams, domains -/

/-- The least and the greatest good settings, and one past each. -/
theorem witness_SetTimingWrites :
    (∀ params : List Byte, ∀ a : Admission, FromOwner 0x18 (command 0x18 9 params) (owned a)) ∧
    ((0 : Byte).toNat ≤ 3 ∧ (3 : Byte).toNat ≤ 3 ∧ 3 < (4 : Byte).toNat ∧ (1 : Byte) ≠ 0 ∧ (255 : Byte) ≠ 0) ∧
    (owned .closed).mc.admission = .closed ∧ (owned .quiesced).mc.admission = .quiesced ∧ (owned .closed).Empty ∧
    (owned .quiesced).Empty ∧ (owned .opened).mc.admission = .opened := by
  refine ⟨fun _ _ => fromOwner_owned _ _ _ _, ?_, rfl, rfl, ?_, ?_, rfl⟩ <;> decide +kernel

theorem witness_BindStreamWrites :
    (∀ params : List Byte, FromOwner 0x20 (command 0x20 9 params) (opened.setStaging 0 (some (stagedReq .read)))) ∧
    ((3 : Byte).toNat = (3 : Port).val ∧ 3 < (4 : Byte).toNat) ∧
    ((15 : Byte).toNat = (15 : Stream).val ∧ 15 < (16 : Byte).toNat) ∧
    ((15 : Byte).toNat = (15 : Domain).val ∧ 15 < (16 : Byte).toNat ∧ (16 : Byte) ≠ 0xFF) ∧
    (0 : Byte).toNat = (0 : Port).val :=
  ⟨fun _ => fromOwner_of rfl rfl rfl rfl, by decide⟩

theorem witness_SetDomainWrites :
    (∀ params : List Byte, FromOwner 0x22 (command 0x22 9 params) (opened.setStaging 0 (some (stagedReq .read)))) ∧
    ((1 ≤ (1 : Byte).toNat ∧ (1 : Byte).toNat ≤ 16) ∧ (1 ≤ (16 : Byte).toNat ∧ (16 : Byte).toNat ≤ 16) ∧
      (1 ≤ (32 : Byte).toNat ∧ (32 : Byte).toNat ≤ 32) ∧ ¬ (1 ≤ (0 : Byte).toNat) ∧ ¬ ((17 : Byte).toNat ≤ 16) ∧
      ¬ ((33 : Byte).toNat ≤ 32)) ∧
    ((2 : Byte).toNat ≤ 2 ∧ (1 : Byte).toNat ≤ 1 ∧ (7 : Byte).toNat ≤ 7 ∧ ¬ (3 : Byte).toNat ≤ 2 ∧
      ¬ (2 : Byte).toNat ≤ 1 ∧ ¬ (8 : Byte).toNat ≤ 7) ∧
    (0 : Byte).toNat = (0 : Domain).val ∧ (15 : Byte).toNat = (15 : Domain).val ∧ ¬ (16 : Byte).toNat ≤ 15 :=
  ⟨fun _ => fromOwner_of rfl rfl rfl rfl, by decide⟩

theorem witness_StreamAndDomainReads :
    (∀ params : List Byte, FromOwner 0x21 (command 0x21 9 params) opened) ∧
    (∀ params : List Byte, FromOwner 0x23 (command 0x23 9 params) opened) ∧
    ((3 : Byte).toNat = (3 : Port).val ∧ 3 < (4 : Byte).toNat ∧ (15 : Byte).toNat = (15 : Stream).val ∧
      15 < (16 : Byte).toNat ∧ (15 : Byte).toNat = (15 : Domain).val) :=
  ⟨fun _ => fromOwner_opened _ _ _, fun _ => fromOwner_opened _ _ _, by decide⟩

/-! ### Witnesses: the Mapping Table -/

/-- Size class codes 3 and 4; a ticket marked absent with 0xFFFF and with 0xFFFE; a list of 15 and of 17 bytes. -/
theorem witness_MappingRecordReads :
    ((0x30 : Byte).toNat / 16 % 8 ≤ 3 ∧ (0x30 : Byte).getLsbD 7 = false) ∧ 3 < (0x40 : Byte).toNat / 16 % 8 ∧
    (0xB0 : Byte).getLsbD 7 = true ∧ (0xFE : Byte) ≠ 0xFF ∧ (List.replicate 15 (0 : Byte)).length ≠ 16 ∧
    (List.replicate 17 (0 : Byte)).length ≠ 16 := by decide

theorem witness_ReadEntryReports :
    FromOwner 0x32 (command 0x32 9 [63]) opened ∧ (63 : Byte).toNat = (63 : EntryIndex).val ∧
    FromOwner 0x32 (command 0x32 9 [64]) opened ∧ 63 < (64 : Byte).toNat :=
  ⟨fromOwner_opened _ _ _, rfl, fromOwner_opened _ _ _, by decide⟩

/-- An S4K INSTALL as `installOf` reads it. -/
def argsOf (index : Byte) (d : Domain) (base : Addr) (pin : Bool) (ticket : Option Half) : InstallArgs :=
  { index := index, scope := .domain d, size := .s4K, clientBase := base, node := 14, fabricBase := 0x000400100000,
    perms := { r := true, w := true, p := false }, pin := pin, ticket := ticket }

/-- The parameters that spell `argsOf` with a pin request as given and no ticket. -/
def pinParams (index d : Byte) (base : Addr) (pin : Bool) : List Byte :=
  (installParams index d base 14).set 1 (if pin then 0x0D else 0x0C)

/-- The first `n` entries valid and pinned, of domain 3, pages of their own. -/
def pinnedTable (n : Nat) : TransUnit :=
  { entries := Vector.ofFn fun i => if i.val < n then entryOf 3 true false i.val else Entry.cleared, clock := 0 }

theorem witness_InstallChecks :
    (∀ params : List Byte, ∀ tu, FromOwner 0x30 (command 0x30 9 params) { opened with tu := tu }) ∧
    installOf (List.replicate 15 0) = none ∧
    (∀ x ∈ [(63, (63 : Byte)), (64, 64), (0xFF, 0xFF)],
      installOf (pinParams x.2 0 0x7000 false) = some (argsOf x.2 0 0x7000 false none) ∧ x.2.toNat = x.1) ∧
    (Fits opened.ownNode (argsOf 63 0 0x7000 false none) ∧
      Clashes (argsOf 63 0 0x7000 false none) (fun j => j = 63) opened ∧
      Clashes (argsOf 0xFF 0 0x7000 false none) (fun _ => False) opened ∧
      ¬ Fits opened.ownNode { argsOf 63 0 0x7800 false none with node := 134 }) ∧
    (let s : State := { opened with tu := pinnedTable 48 }
     Fits s.ownNode (argsOf 63 0 0x8000 true none) ∧ ¬ Clashes (argsOf 63 0 0x8000 true none) (fun j => j = 63) s ∧
     ¬ Clashes (argsOf 0xFF 0 0x8000 true none) (fun _ => False) s ∧ s.pins = 48 ∧
     ((List.finRange 64).filter fun (j : EntryIndex) =>
       decide (j ≠ 63) && (s.tu.entries[j].valid && s.tu.entries[j].pinned)).length = 48) := by
  refine ⟨fun _ _ => fromOwner_of rfl rfl rfl rfl, ?_, ?_, ?_, ?_⟩ <;> decide +kernel

/-- An INSTALL over a valid entry and one at an invalid entry with the pinned count at 47; a live and a dead ticket. -/
theorem witness_InstallPlaces :
    (∀ params : List Byte, FromOwner 0x30 (command 0x30 9 params) (missing [missRec 1 0x50 5] (holding 2) opened)) ∧
    installOf (pinParams 0 0 0x7000 false) = some (argsOf 0 0 0x7000 false none) ∧
    installOf ((pinParams 63 0 0x50000 false).set 2 0 |>.set 14 0 |>.set 15 1) =
      some (argsOf 63 0 0x50000 false (some 1)) ∧
    (∀ a ∈ [argsOf 0 0 0x7000 false none, argsOf 0 0 0x7000 false (some 1), argsOf 0 0 0x7000 false (some 2)],
      Fits opened.ownNode a ∧ ¬ Clashes a (fun j => j = 0) opened) ∧
    (∃ m ∈ (missing [missRec 1 0x50 5] (holding 2) opened).mu.records, m.ticket = 1) ∧
    (∀ m ∈ (missing [missRec 1 0x50 5] (holding 2) opened).mu.records, m.ticket ≠ 2) ∧
    (let s : State := { opened with tu := pinnedTable 48 }
     ((List.finRange 64).filter fun (j : EntryIndex) =>
       decide (j ≠ 0) && (s.tu.entries[j].valid && s.tu.entries[j].pinned)).length < 48 ∧
     ¬ Clashes (argsOf 0 0 0x7000 true none) (fun j => j = 0) s) := by
  refine ⟨fun _ => fromOwner_of rfl rfl rfl rfl, ?_, ?_, ?_, ?_, ?_, ?_⟩ <;> decide +kernel

/-- A full table in which every entry but pinned entry 40 shows a hit. -/
def allHitTable : TransUnit :=
  { entries := Vector.ofFn fun i => entryOf 3 (decide (i = 40)) true i.val, clock := 40 }

/-- The lowest invalid entry (1); section 11.4's sweep, whose victim is 42; and a sweep that goes round, all hit flags
set, whose victim is the first unpinned entry from the pointer, 41. -/
theorem witness_InstallAnyPlaces :
    let params := pinParams 0xFF 9 0 false
    let a := argsOf 0xFF 9 0 false none
    (∀ tu, FromOwner 0x30 (command 0x30 9 params) { opened with tu := tu }) ∧ installOf params = some a ∧
    Fits opened.ownNode a ∧
    (∀ tu ∈ [opened.tu, sweptTable, allHitTable], ¬ Clashes a (fun _ => False) { opened with tu := tu }) ∧
    (opened.tu.entries[(1 : EntryIndex)].valid = false ∧ ∀ j < (1 : EntryIndex), opened.tu.entries[j].valid = true) ∧
    ((∀ j : EntryIndex, sweptTable.entries[j].valid = true) ∧
      sweptTable.entries[(42 : EntryIndex)].pinned = false ∧ sweptTable.entries[(42 : EntryIndex)].hit = false ∧
      (∀ j : EntryIndex, (j - 40).val < (42 - 40 : EntryIndex).val → sweptTable.entries[j].pinned = false →
        sweptTable.entries[j].hit = true)) ∧
    ((∀ j : EntryIndex, allHitTable.entries[j].valid = true) ∧
      (∀ j : EntryIndex, allHitTable.entries[j].pinned = false → allHitTable.entries[j].hit = true) ∧
      ∀ j : EntryIndex, allHitTable.entries[j].pinned = false → (41 - 40 : EntryIndex).val ≤ (j - 40).val) := by
  refine ⟨fun _ => fromOwner_of rfl rfl rfl rfl, ?_, ?_, ?_, ?_, ?_, ?_⟩ <;> decide +kernel

/-- 47 and 48 pinned entries; a pinned, an unpinned and an invalid entry. -/
theorem witness_SetPinDecides :
    (∀ params : List Byte, ∀ tu, FromOwner 0x31 (command 0x31 9 params) { opened with tu := tu }) ∧
    (State.pins { opened with tu := pinnedTable 48 } = 48 ∧ State.pins opened = 0 ∧
      opened.tu.entries[(0 : EntryIndex)].valid = true ∧ opened.tu.entries[(0 : EntryIndex)].pinned = false ∧
      opened.tu.entries[(63 : EntryIndex)].valid = false ∧
      (pinnedTable 48).entries[(47 : EntryIndex)].pinned = true) ∧
    (let s : State := { opened with tu :=
        { (pinnedTable 48) with entries := (pinnedTable 48).entries.set 63 (entryOf 3 false false 63) } }
     s.pins = 48 ∧ s.tu.entries[(63 : EntryIndex)].valid = true ∧ s.tu.entries[(63 : EntryIndex)].pinned = false) ∧
    ((63 : Byte).toNat = (63 : EntryIndex).val ∧ 63 < (64 : Byte).toNat ∧ 1 < (2 : Byte).toNat) := by
  refine ⟨fun _ _ => fromOwner_of rfl rfl rfl rfl, ?_, ?_, ?_⟩ <;> decide +kernel

/-! ### Witnesses: fences, RESOLVE, READ MISSES, LOG READ -/

/-- Each selector at an end of its range; the longest range, and one that passes 2^32; 3 and 4 fence records. -/
theorem witness_InvalidateDecides :
    (∀ params : List Byte, ∀ fu, FromOwner 0x33 (command 0x33 9 params) { inFlight with fu := fu }) ∧
    (∃ named, Selects .invalidateIndex 1 63 0 0 named) ∧ (∃ named, Selects .invalidateDomain 2 15 0 0 named) ∧
    (∃ named, Selects .invalidateRange 3 0xFF 0xFFFFFFFF 1 named) ∧
    (∃ named, Selects .invalidateRange 3 15 0 0xFFFFFFFF named) ∧
    (∃ named, Selects .invalidateUnpinned 4 0xFF 0 0 named) ∧ (∃ named, Selects .invalidateAll 5 0xFF 0 0 named) ∧
    (2 ^ 32 < (0xFFFFFFFF : Addr).toNat + (2 : Addr).toNat ∧ 1 < (2 : Byte).toNat ∧ 63 < (64 : Byte).toNat ∧
      15 < (16 : Byte).toNat ∧ 5 < (6 : Byte).toNat) ∧
    (∃ i : SlotIndex, inFlight.fu.ort[i].occupied = true) ∧ (∀ i : SlotIndex, opened.fu.ort[i].occupied = false) ∧
    [fenceRec 0 [5], fenceRec 1 [5], fenceRec 2 [5]].length < 4 ∧
    4 ≤ [fenceRec 0 [5], fenceRec 1 [5], fenceRec 2 [5], fenceRec 3 [5]].length := by
  refine ⟨fun _ _ => fromOwner_of rfl rfl rfl rfl,
    ⟨_, .inl ⟨rfl, rfl, 63, rfl, rfl⟩⟩, ⟨_, .inr (.inl ⟨rfl, rfl, 15, rfl, rfl⟩)⟩,
    ⟨_, .inr (.inr (.inl ⟨rfl, rfl, by decide, by decide, .shared, .inl ⟨rfl, rfl⟩, rfl⟩))⟩,
    ⟨_, .inr (.inr (.inl ⟨rfl, rfl, by decide, by decide, .domain 15, .inr ⟨15, rfl, rfl⟩, rfl⟩))⟩,
    ⟨_, .inr (.inr (.inr (.inl ⟨rfl, rfl, rfl⟩)))⟩, ⟨_, .inr (.inr (.inr (.inr ⟨rfl, rfl, rfl⟩)))⟩,
    by decide, ?_, ?_, by decide, by decide⟩ <;> decide +kernel

theorem witness_FenceCaptures :
    (∀ fu, FromOwner 0x34 (command 0x34 9 []) { inFlight with fu := fu }) ∧
    4 ≤ [fenceRec 0 [5], fenceRec 1 [5], fenceRec 2 [5], fenceRec 3 [5]].length ∧ inFlight.fu.fences.length < 4 ∧
    (∃ i : SlotIndex, inFlight.fu.ort[i].occupied = true) ∧ ∀ i : SlotIndex, opened.fu.ort[i].occupied = false := by
  refine ⟨fun _ => fromOwner_of rfl rfl rfl rfl, by decide, ?_, ?_, ?_⟩ <;> decide +kernel

theorem witness_ResolveDecides :
    let s := missing [missRec 1 0x50 5] (holding 2) opened
    (∀ action : Byte, FromOwner 0x40 (command 0x40 9 (be16 1 ++ [action])) s) ∧
    (∃ m ∈ s.mu.records, m.ticket = 1) ∧ (∀ m ∈ s.mu.records, m.ticket ≠ 0xFFFF) ∧ (0 : Byte) ≠ 1 ∧ (3 : Byte) ≠ 1 := by
  refine ⟨fun _ => fromOwner_of rfl rfl rfl rfl, ?_, ?_, by decide, by decide⟩ <;> decide +kernel

theorem witness_ReadMissesReports :
    (∀ offset : Byte, FromOwner 0x41 (command 0x41 9 [offset]) (missing (otherRecords 16) [] opened)) ∧
    (15 : Byte).toNat ≤ 15 ∧ 15 < (16 : Byte).toNat :=
  ⟨fun _ => fromOwner_of rfl rfl rfl rfl, by decide⟩

theorem witness_LogReadRemoves :
    (∀ n : Byte, FromOwner 0x50 (command 0x50 9 [n]) (logged 16 opened)) ∧
    ((1 : Byte) ≠ 0 ∧ (4 : Byte).toNat ≤ 4 ∧ 4 < (5 : Byte).toNat) ∧
    (FromOwner 0x50 (command 0x50 9 [1]) opened ∧ opened.fl.records = [] ∧ opened.LogLaw) :=
  ⟨fun _ => fromOwner_of rfl rfl rfl rfl, by decide, fromOwner_opened _ _ _, rfl, by decide⟩

/-! ### Witnesses: frames and invariants -/

theorem witness_FramesSpellRows :
    (∀ x ∈ [((0x01 : Byte), (.claim : Command → Instr)), (0x50, .logRead)], x.1 ∈ catalogue) ∧
    ((0x01, .claim) : Byte × (Command → Instr)) ∈ commandRows ∧
    (Instr.logRead { command 0x50 1 [] with params := List.replicate 255 0 }).wf = true ∧
    (0xFF : Byte) ∉ catalogue ∧ (response 1 []).wf = true ∧
    Response.wf { response 1 [] with payload := some { bytes := List.replicate 256 0, check := 0 } } = true ∧
    (∀ n ∈ [0, 15, 17, 18, 275], (List.replicate n (0 : Byte)).length ≠ 16 ∧
      ((List.replicate n (0 : Byte)).length < 19 ∨ 274 < (List.replicate n (0 : Byte)).length)) ∧
    ((List.replicate 14 (1 : Byte)).length = 14 ∧ 0 ≠ checkWord (List.replicate 14 1)) ∧
    (∀ n ∈ [0, 1, 256], ∀ p, carried (List.replicate n 0) = some p → 1 ≤ p.bytes.length ∧ p.bytes.length ≤ 256) ∧
    (135 : Byte) ≠ 134 ∧ (0x61 : Byte) ∉ takenKinds :=
  ⟨by simp [catalogue], .head _, by decide +kernel, by decide, by decide, by decide +kernel, by decide +kernel,
   by decide +kernel, by decide +kernel, by decide, by decide⟩

/-- A client packet and fabric packets with the longest and with no payload; a destination at the own node. -/
theorem witness_SentFramesReadBack :
    (creditOf 8).payload.length ≤ 256 ∧
    (answerOf 0x21 0 (List.replicate 256 0) (request .read 0x1040 [])).payload.length ≤ 256 ∧
    (replyPacket 134 20 1 0x01 .ok [0]).payload.length ≤ 256 ∧ (20 : Byte) ≠ 134 ∧
    (replyPacket 134 134 1 0x01 .ok [0]).destination = 134 ∧
    (replyPacket 134 134 1 0x01 .ok [0]).kind ∉ takenKinds := by decide +kernel

theorem witness_OnlyUpLinksCarry :
    ∃ t, exec (.claim (command 0x01 2 [])) linked = .next t ∧ t.sent.length = 1 := ⟨_, rfl, by decide +kernel⟩

theorem witness_OnlyDueEventsAct :
    ∀ event ∈ [Instr.headProcessing 3, .portStaleRelookup 0, .grant, .upstreamTimerExpiry 31, .missTimerExpiry 0,
               .replayProcessing, .rpStaleRelookup, .fenceCompletion, .drainCompletion],
      byItself event = true ∧ event ∉ opened.due := by decide +kernel

theorem witness_ResetKeepsLaws : ∃ t, exec (.powerOn 15) State.reset = .next t := ⟨_, rfl⟩

/-- The laws of the parts of `busyPart` and of what it holds in its staging position. -/
theorem witness_CreditsAreConserved :
    busyPart.CreditLaw ∧ (∃ t, step busyPart = .next t) ∧ busyPart.ports[(1 : Port)].queue ≠ [] := by
  refine ⟨?_, ⟨_, rfl⟩, by decide +kernel⟩
  have h : ∀ p : Port,
      ((busyPart.ports[p].link = .up → busyPart.ports[p].credits + busyPart.ports[p].queue.length = 8) ∧
        (busyPart.ports[p].link = .down → busyPart.ports[p] = PortState.cleared)) ∧
      (busyPart.ports[p].staging.all fun q => decide (q.req.port = p)) = true := by decide +kernel
  intro p
  refine ⟨(h p).1.1, (h p).1.2, fun q hq => ?_⟩
  have := (h p).2
  rw [hq] at this
  simpa using this

theorem witness_TableLawsAreKept :
    opened.PinLaw ∧ opened.OverlapLaw ∧ opened.EntryLaw ∧ State.pins { opened with tu := pinnedTable 48 } = 48 ∧
    State.PinLaw { opened with tu := pinnedTable 48 } := by
  refine ⟨?_, ?_, ?_, ?_, ?_⟩ <;> decide +kernel

theorem witness_TranslationsStayCurrent : ∃ t, busyPart.CreditLaw ∧ busyPart.TranslationLaw ∧ step busyPart = .next t := by
  refine ⟨_, witness_CreditsAreConserved.1, ⟨fun p q hq _ => ?_, fun q hq => ?_⟩, rfl⟩
  · have h : ∀ p : Port, (busyPart.ports[p].staging.all fun q =>
        decide (busyPart.Current q ∧ busyPart.du.streams[p][q.req.stream] = some q.domain)) = true := by decide +kernel
    have := h p
    rw [hq] at this
    exact of_decide_eq_true this
  · cases hq

/-- With a fence pending, the cache entry naming it, a tick to pass and a command that is none; with a QUIESCE pending,
the cache entry naming that; and a record with an emptied set, which does not outlast a tick. -/
theorem witness_FencesAndTimersAreKept :
    let named := busyPart.setCache (some { source := 20, sequence := 20, code := 0x33, answer := .pendingFence 0 })
    (named.FenceLaw ∧ named.TimerLaw ∧ named.fu.fences ≠ [] ∧ ∃ t, step named = .next t) ∧
    named.CacheLaw ∧ (drainingPart.FenceLaw ∧ drainingPart.TimerLaw ∧ drainingPart.CacheLaw) ∧
    State.TickPasses { named with pending := [.tick] } ∧ ¬ State.TickPasses { named with pending := [.grant] } ∧
    (∃ t, step { named with pending := [.tick] } = .next t ∧ fenceRec 0 [5] ∈ t.fu.fences) ∧
    ∃ t, step { named with fu := { named.fu with fences := [fenceRec 0 []] }, pending := [.tick] } = .next t ∧
      t.fu.fences = [] := by
  refine ⟨⟨by decide +kernel, by decide +kernel, by decide +kernel, _, rfl⟩, ?_, ⟨by decide +kernel, by decide +kernel,
    ?_⟩, ⟨rfl, .inl ⟨[], rfl⟩⟩, ?_, ⟨_, rfl, by decide +kernel⟩, _, rfl, by decide +kernel⟩
  · rintro e ⟨⟩
    exact ⟨by decide, fun id h => ⟨fenceRec 0 [5], .head _, by cases h; rfl, rfl, rfl, rfl⟩, nofun⟩
  · rintro e ⟨⟩
    exact ⟨by decide, nofun, fun _ => ⟨rfl, rfl⟩⟩
  · rintro ⟨-, ⟨_, ⟨⟩⟩ | ⟨⟨⟩, -⟩⟩

theorem witness_MissUnitLawsAreKept :
    busyPart.RecordLaw ∧ busyPart.HeldLaw ∧ busyPart.RpLaw ∧ busyPart.mu.records ≠ [] := by
  refine ⟨by decide +kernel, ⟨by decide +kernel, ?_, by decide +kernel⟩, nofun, by decide +kernel⟩
  intro h hh t ht
  have all : ∀ h ∈ busyPart.mu.held, h = heldReq (.held 1) .read 0x50000 := by decide +kernel
  rw [all h hh] at ht ⊢
  cases ht
  exact ⟨missRec 1 0x50 5, by decide +kernel, rfl, rfl, by decide +kernel⟩

theorem witness_QuiescedStaysQuiet :
    (∀ s ∈ [opened, drainingPart, owned .quiesced], s.OwnerLaw ∧ s.NotifiedLaw ∧ s.QuiesceLaw ∧ s.QuietLaw) ∧
    (owned .quiesced).mc.admission = .quiesced := by
  refine ⟨?_, rfl⟩
  decide +kernel

theorem witness_LogDomainTimingLawsAreKept :
    ∀ s ∈ [logged 16 opened, { opened with tb := { opened.tb with prescale := 1599 } }],
      s.LogLaw ∧ s.DomainLaw ∧ s.TimingLaw := by decide +kernel

end Sys2Proof.Tests
end

section
/-! PROOFS. How a COMMAND of the owner is answered: the layer that the statements about COMMAND rows share (R130, R131,
R134), and the reading of index and yes-or-no parameters (R187). -/

namespace Sys2Proof.Machine

/-! ### Replies and the envelope -/

/-- R130: over an UP link the reply leaves, and nothing else changes. -/
theorem sendReply_of_up {s : State} (h : s.fabric = .up) (node sequence code : Byte) (status : ReplyStatus)
    (results : List Byte) :
    sendReply node sequence code status results s =
      { s with sent := s.sent ++ [s.replyTo node sequence code status results] } := by
  simp [sendReply, sendFabric, h, State.emit, State.replyTo, replyPacket, managePacket]

theorem cacheHit_of_fresh {c : Command} {s : State} (h : Fresh c s) : s.cacheHit c.source c.sequence = none := by
  unfold State.cacheHit
  cases hc : s.mc.cache with
  | none => rfl
  | some e => exact if_neg fun ⟨hsrc, hseq⟩ => h e hc hsrc hseq

theorem up_of_fromOwner {code : Byte} {c : Command} {s : State} (h : FromOwner code c s) : s.fabric = .up := h.1.1

theorem owner_of_fromOwner {code : Byte} {c : Command} {s : State} (h : FromOwner code c s) :
    s.mc.owner = some c.source := h.2.2

/-- R131: steps 1 to 3 let a command of the owner through. -/
theorem envelope_of_fromOwner {code : Byte} {c : Command} {s : State} (h : FromOwner code c s) (fromAny : Bool) :
    envelope c.source c.sequence (code :: c.params) c.check fromAny s = none := by
  obtain ⟨⟨hup, hcheck, hnode⟩, hfresh, howner⟩ := h
  exact (envelope_none_iff ..).2 ⟨hup, by simp, hcheck, hnode, cacheHit_of_fresh hfresh, .inr howner⟩

/-- R130, R134: a command of the owner that is answered at once is answered and cached. -/
theorem finish_now {code : Byte} {c : Command} {before u : State} (howner : before.mc.owner = some c.source)
    (hup : u.fabric = .up) (status : ReplyStatus) (results : List Byte) :
    finish c.source c.sequence code before (u, .now status results) = u.answered code c status results := by
  simp [finish, enterCache, howner, sendReply_of_up hup, State.answered, State.setCache]

/-- R131: a command of the owner whose step 5 leaves `u` and answers at once. -/
theorem takeCommand_now {code : Byte} {c : Command} {s u : State} {body : State → State × Reply} {status : ReplyStatus}
    {results : List Byte} (h : FromOwner code c s) (fromAny : Bool) (hbody : body s = (u, .now status results))
    (hup : u.fabric = .up) :
    takeCommand code fromAny c body s = u.answered code c status results := by
  rw [takeCommand, envelope_of_fromOwner h, hbody]
  exact finish_now (owner_of_fromOwner h) hup status results

/-- R131: a command of the owner that step 5 rejects changes nothing but for its reply. -/
theorem takeCommand_reject {code : Byte} {c : Command} {s : State} {body : State → State × Reply}
    {status : ReplyStatus} (h : FromOwner code c s) (fromAny : Bool) (hbody : body s = reject status s) :
    takeCommand code fromAny c body s = s.answered code c status [] :=
  takeCommand_now h fromAny hbody (up_of_fromOwner h)

/-! ### Parameters -/

theorem finOf_eq_some_iff {n : Nat} {b : Byte} {i : Fin n} : finOf n b = some i ↔ b.toNat = i.val := by
  unfold finOf
  split <;> simp [Fin.ext_iff]
  omega

theorem finOf_eq_none_iff {n : Nat} {b : Byte} : finOf n b = none ↔ n ≤ b.toNat := by
  simp [finOf]

theorem indexOf_of_toNat {b : Byte} {i : EntryIndex} (h : b.toNat = i.val) : indexOf b = some i :=
  finOf_eq_some_iff.2 h

theorem indexOf_of_large {b : Byte} (h : 63 < b.toNat) : indexOf b = none :=
  finOf_eq_none_iff.2 h

theorem boolOf_of_large {b : Byte} (h : 1 < b.toNat) : boolOf b = none := by
  have h0 : b ≠ 0 := by rintro rfl; simp at h
  have h1 : b ≠ 1 := by rintro rfl; simp at h
  rw [boolOf, if_neg h0, if_neg h1]

end Sys2Proof.Machine
end

section
/-! PROOFS. Facts about the Mapping Table: the mapping entry record (R189, R190), the pinned count (R3), the checks of
an INSTALL (R12 to R14) and what its placement leaves (R19, R20). -/

namespace Sys2Proof.Machine

/-! ### The mapping entry record -/

/-- A field and the byte below it are one field. -/
theorem extractLsb'_append_byte {w hi lo len : Nat} {x : BitVec w} (h : hi = lo + 8) :
    x.extractLsb' hi len ++ x.extractLsb' lo 8 = x.extractLsb' lo (len + 8) :=
  BitVec.extractLsb'_append_extractLsb'_eq_extractLsb' h

theorem of32_be32 (x : Addr) :
    of32 (x.extractLsb' 24 8) (x.extractLsb' 16 8) (x.extractLsb' 8 8) (x.extractLsb' 0 8) = x := by
  rw [of32, extractLsb'_append_byte (by decide : 24 = 16 + 8), extractLsb'_append_byte (by decide : 16 = 8 + 8),
    extractLsb'_append_byte (by decide : 8 = 0 + 8)]
  exact BitVec.extractLsb'_eq_self

theorem of48_be48 (x : BitVec 48) :
    of48 (x.extractLsb' 40 8) (x.extractLsb' 32 8) (x.extractLsb' 24 8) (x.extractLsb' 16 8) (x.extractLsb' 8 8)
      (x.extractLsb' 0 8) = x := by
  rw [of48, extractLsb'_append_byte (by decide : 40 = 32 + 8), extractLsb'_append_byte (by decide : 32 = 24 + 8),
    extractLsb'_append_byte (by decide : 24 = 16 + 8), extractLsb'_append_byte (by decide : 16 = 8 + 8),
    extractLsb'_append_byte (by decide : 8 = 0 + 8)]
  exact BitVec.extractLsb'_eq_self

/-- The bit that `flagBit n` sets, as bit `k` of a byte. -/
theorem getLsbD_flagBit {n k : Nat} (hn : n < 8) (b : Bool) : (flagBit n b).getLsbD k = (decide (k = n) && b) := by
  cases b
  · simp [flagBit]
  · rw [Bool.eq_iff_iff]
    simp [flagBit]
    omega

/-- R189: the domain bits of byte 2 of a record; 0 for SHARED. -/
def Scope.domainField : Scope → Domain
  | .domain d => d
  | .shared => 0

/-- R189: byte 1 of the record READ ENTRY returns. -/
def Entry.flagByte (e : Entry) : Byte :=
  flagBit 7 e.valid ||| flagBit 6 e.pinned ||| flagBit 5 (e.scope == .shared) ||| flagBit 4 e.hit
    ||| flagBit 3 e.perms.r ||| flagBit 2 e.perms.w ||| flagBit 1 e.perms.p

/-- R189: byte 2 of the record READ ENTRY returns, its ticket marked absent. -/
def groupByte (z : SizeClass) (d : Domain) : Byte := 0x80 ||| (z.code <<< 4) ||| numByte d.val

theorem Entry.record_eq (i : EntryIndex) (e : Entry) :
    e.record i = [numByte i.val, e.flagByte, groupByte e.size e.scope.domainField, e.node] ++ be32 e.clientBase
      ++ be48 (e.fabricBase.setWidth 48) ++ [0xFF, 0xFF] := by
  cases h : e.scope <;> simp [Entry.record, Entry.flagByte, groupByte, Scope.domainField, h]

theorem Entry.flagByte_getLsbD (e : Entry) (k : Nat) :
    e.flagByte.getLsbD k = ((decide (k = 7) && e.valid) || (decide (k = 6) && e.pinned)
      || (decide (k = 5) && (e.scope == .shared)) || (decide (k = 4) && e.hit) || (decide (k = 3) && e.perms.r)
      || (decide (k = 2) && e.perms.w) || (decide (k = 1) && e.perms.p)) := by
  simp only [Entry.flagByte, BitVec.getLsbD_or, getLsbD_flagBit (by decide : 7 < 8),
    getLsbD_flagBit (by decide : 6 < 8), getLsbD_flagBit (by decide : 5 < 8), getLsbD_flagBit (by decide : 4 < 8),
    getLsbD_flagBit (by decide : 3 < 8), getLsbD_flagBit (by decide : 2 < 8), getLsbD_flagBit (by decide : 1 < 8)]

/-- R189: the three fields of byte 2, over every size class and domain. -/
theorem groupByte_fields (z : SizeClass) (d : Domain) :
    sizeOf ((groupByte z d).toNat / 16 % 8) = some z ∧ (groupByte z d).toNat % 16 = d.val ∧
      (groupByte z d).getLsbD 7 = true := by
  cases z <;> revert d <;> decide

/-- R190: a record whose size class code and ticket have a meaning, as INSTALL reads it. -/
theorem installOf_of_codes {i f g n c3 c2 c1 c0 b5 b4 b3 b2 b1 b0 t1 t0 : Byte} {size : SizeClass}
    {ticket : Option Half} (hsize : sizeOf (g.toNat / 16 % 8) = some size)
    (hticket : ticketOf (g.getLsbD 7) (of16 t1 t0) = some ticket) :
    installOf [i, f, g, n, c3, c2, c1, c0, b5, b4, b3, b2, b1, b0, t1, t0] = some
      { index := i
        scope := if f.getLsbD 5 then .shared else .domain ⟨g.toNat % 16, Nat.mod_lt _ (by decide)⟩
        size := size, clientBase := of32 c3 c2 c1 c0, node := n, fabricBase := of48 b5 b4 b3 b2 b1 b0
        perms := { r := f.getLsbD 3, w := f.getLsbD 2, p := f.getLsbD 1 }, pin := f.getLsbD 0, ticket := ticket } := by
  simp only [installOf, hsize, hticket]

/-- R22: the record of an entry, read back as the parameters of an INSTALL. -/
theorem installOf_record (i : EntryIndex) (e : Entry) :
    installOf (e.record i) = some
      { index := numByte i.val, scope := e.scope, size := e.size, clientBase := e.clientBase, node := e.node,
        fabricBase := e.fabricBase.setWidth 48, perms := e.perms, pin := false, ticket := none } := by
  obtain ⟨hsize, hdomain, habsent⟩ := groupByte_fields e.size e.scope.domainField
  have hticket : ticketOf ((groupByte e.size e.scope.domainField).getLsbD 7) (of16 0xFF 0xFF) = some none := by
    rw [habsent]; decide
  have hscope : (if e.scope == .shared then .shared else .domain e.scope.domainField) = e.scope := by
    cases e.scope <;> rfl
  rw [Entry.record_eq]
  refine (installOf_of_codes hsize hticket).trans ?_
  simp only [hdomain, Fin.eta, of32_be32, of48_be48, Entry.flagByte_getLsbD]
  simpa using hscope

/-! ### The pinned count -/

/-- R3: the count of the model and the count the statements name. -/
theorem pinnedCount_eq_pins (s : State) : s.pinnedCount = s.pins := by
  simp [State.pinnedCount, State.pinnedBut, State.pins, List.countP_eq_length_filter]

/-- Two counts over a table that differ at one index only. -/
theorem countP_finRange_of_eq_off {n : Nat} {p q : Fin n → Bool} (i : Fin n) (h : ∀ j, j ≠ i → p j = q j) :
    (List.finRange n).countP p + (q i).toNat = (List.finRange n).countP q + (p i).toNat := by
  have hperm := List.perm_cons_erase (List.mem_finRange i)
  have hrest : ((List.finRange n).erase i).countP p = ((List.finRange n).erase i).countP q :=
    List.countP_congr fun j hj => by rw [h j ((List.nodup_finRange n).mem_erase_iff.1 hj).1]
  rw [hperm.countP_eq p, hperm.countP_eq q, List.countP_cons, List.countP_cons, hrest]
  cases p i <;> cases q i <;> rfl

/-- R3: the pinned count after a write to entry `i`: the old entry leaves the count and the new one joins it. -/
theorem pins_updEntry (i : EntryIndex) (f : Entry → Entry) (s : State) :
    (s.updEntry i f).pins + (s.tu.entries[i].valid && s.tu.entries[i].pinned).toNat =
      s.pins + ((f s.tu.entries[i]).valid && (f s.tu.entries[i]).pinned).toNat := by
  have h := countP_finRange_of_eq_off (n := 64)
    (p := fun j => (s.updEntry i f).tu.entries[j].valid && (s.updEntry i f).tu.entries[j].pinned)
    (q := fun j => s.tu.entries[j].valid && s.tu.entries[j].pinned) i
    (fun j hj => by simp [Fin.val_ne_of_ne hj.symm])
  simpa [State.pins, ← List.countP_eq_length_filter] using h

/-! ### The checks of an INSTALL -/

/-- R12: the parameters pass the checks of INSTALL. -/
theorem bad_eq_false_iff (own : Byte) (a : InstallArgs) : a.bad own = false ↔ Fits own a := by
  have hor : (a.perms.r = false → a.perms.w = true) ↔ a.perms.r = true ∨ a.perms.w = true := by
    cases a.perms.r <;> simp
  simp [InstallArgs.bad, Fits, and_assoc, hor]

/-- R13: two scopes meet where one is SHARED or both are the same. -/
theorem Scope.meets_iff (a b : Scope) : a.meets b = true ↔ a = .shared ∨ b = .shared ∨ a = b := by
  cases a <;> cases b <;> simp [Scope.meets]

/-- R13: the overlap check, the entries left out given as a test and as a predicate. -/
theorem overlapLawBroken_iff {a : InstallArgs} {skip : EntryIndex → Bool} {P : EntryIndex → Prop} {s : State}
    (hskip : ∀ j, skip j = true ↔ P j) : overlapLawBroken a skip s = true ↔ Clashes a P s := by
  simp [overlapLawBroken, Entry.conflicts, Entry.overlaps, Scope.meets_iff, Clashes, ← hskip, and_assoc, and_comm]

/-- R14: a pin request passes while fewer than 48 entries, but for those left out, are pinned. -/
theorem pinLimitBroken_eq_false_iff {a : InstallArgs} {skip : EntryIndex → Bool} {s : State} :
    pinLimitBroken a skip s = false ↔ (a.pin = true → s.pinnedBut skip < 48) := by
  rw [pinLimitBroken, Bool.and_eq_false_imp, decide_eq_false_iff_not, not_le]
  rfl

/-! ### Placement and the resolve ticket -/

/-- R19, R23: the model's placement is the one the statements name. -/
theorem writeEntry_entry (i : EntryIndex) (a : InstallArgs) (s : State) : writeEntry i a.entry s = s.placed i a := rfl

@[simp] theorem placed_fabric (i : EntryIndex) (a : InstallArgs) (s : State) : (s.placed i a).fabric = s.fabric := rfl

/-- R102: the model's RETRY is the one the statements name. -/
theorem retryRecord_eq_retried (t : Half) (s : State) : retryRecord t s = s.retried t := by
  simp [retryRecord, State.retried, State.heldOf, State.heldUnder, bne, Bool.beq_eq_decide_eq]

theorem recordOf_isSome_iff (t : Half) (s : State) : (s.recordOf t).isSome ↔ ∃ m ∈ s.mu.records, m.ticket = t := by
  simp [State.recordOf]

/-- R20: the resolve part of an INSTALL, with its outcome byte. -/
theorem resolveTicket_eq (ticket : Option Half) (s : State) :
    resolveTicket ticket s = (s.resolved ticket, s.resolveOutcome ticket) := by
  cases ticket with
  | none => rfl
  | some t =>
    have hlive := recordOf_isSome_iff t s
    cases hr : s.recordOf t with
    | none => simp_all [resolveTicket, State.resolved, State.resolveOutcome]
    | some m => simp_all [resolveTicket, State.resolved, State.resolveOutcome, retryRecord_eq_retried]

@[simp] theorem resolved_fabric (ticket : Option Half) (s : State) : (s.resolved ticket).fabric = s.fabric := by
  cases ticket with
  | none => rfl
  | some t => simp only [State.resolved]; split <;> rfl

/-- R20: the outcome depends on the Miss List only. -/
theorem resolveOutcome_congr {s u : State} (h : u.mu.records = s.mu.records) (ticket : Option Half) :
    u.resolveOutcome ticket = s.resolveOutcome ticket := by
  simp only [State.resolveOutcome, h]

/-- R19, R20: what a placement leaves and answers. -/
theorem placeAt_eq (i : EntryIndex) (a : InstallArgs) (s : State) :
    placeAt i a s = ((s.placed i a).resolved a.ticket,
      .now .ok [numByte i.val, boolByte s.tu.entries[i].valid, s.resolveOutcome a.ticket]) := by
  simp only [placeAt, accept, writeEntry_entry, resolveTicket_eq]
  rw [resolveOutcome_congr (s := s) (u := s.placed i a) rfl]

end Sys2Proof.Machine
end

section
/-! PROOFS. READ ENTRY and SET PIN (R21, R22). -/

namespace Sys2Proof.Machine

/-! ### READ ENTRY -/

theorem exec_readEntry (c : Command) (s : State) :
    exec (.readEntry c) s = .next (takeCommand 0x32 false c (readEntryBody c) s) := rfl

/-- R22: a READ ENTRY of the owner for an index above 63. -/
theorem exec_readEntry_of_large {c : Command} {x : Byte} {s : State} (h : FromOwner 0x32 c s) (hp : c.params = [x])
    (hx : 63 < x.toNat) : exec (.readEntry c) s = .next (s.answered 0x32 c .badParam []) := by
  rw [exec_readEntry, takeCommand_reject h false]
  simp [readEntryBody, hp, indexOf_of_large hx]

/-- R22: a READ ENTRY of the owner for entry `i`. -/
theorem exec_readEntry_of_index {c : Command} {x : Byte} {i : EntryIndex} {s : State} (h : FromOwner 0x32 c s)
    (hp : c.params = [x]) (hx : x.toNat = i.val) :
    exec (.readEntry c) s = .next (s.answered 0x32 c .ok (s.tu.entries[i].record i)) := by
  rw [exec_readEntry, takeCommand_now h false _ (up_of_fromOwner h)]
  simp [readEntryBody, hp, indexOf_of_toNat hx, accept]

/-- Settles O38: the reply by the index read, and the record by reading its bytes back. -/
theorem readEntryReports : Obligations.ReadEntryReports := by
  refine ⟨fun c x s h hp => ⟨exec_readEntry_of_large h hp, fun i => exec_readEntry_of_index h hp⟩, fun i e => ?_⟩
  refine ⟨installOf_record i e, e.flagByte, rfl, ?_, ?_, ?_, ?_, fun hshared =>
    ⟨groupByte e.size e.scope.domainField, by rw [Entry.record_eq]; rfl, ?_⟩⟩
  · rw [Entry.flagByte_getLsbD]; simp
  · rw [Entry.flagByte_getLsbD]; simp
  · rw [Entry.flagByte_getLsbD]; simp [Bool.beq_eq_decide_eq]
  · rw [Entry.flagByte_getLsbD]; simp
  · rw [(groupByte_fields _ _).2.1, hshared]; rfl

/-! ### SET PIN -/

theorem exec_setPin (c : Command) (s : State) :
    exec (.setPin c) s = .next (takeCommand 0x31 false c (setPinBody c) s) := rfl

section
variable {c : Command} {x setting : Byte} {s : State}

theorem setPinBody_of_large (hp : c.params = [x, setting]) (h : 63 < x.toNat ∨ 1 < setting.toNat) :
    setPinBody c s = reject .badParam s := by
  rcases h with hx | hsetting
  · simp [setPinBody, hp, indexOf_of_large hx]
  · simp [setPinBody, hp, boolOf_of_large hsetting]

theorem setPinBody_of_invalid {i : EntryIndex} (hp : c.params = [x, setting]) (hx : x.toNat = i.val)
    (hv : s.tu.entries[i].valid = false) : setPinBody c s = reject .badParam s := by
  cases hb : boolOf setting with
  | none => simp [setPinBody, hp, hb]
  | some on =>
    simp only [setPinBody, hp, indexOf_of_toNat hx, hb]
    exact if_neg (Bool.not_eq_true _ ▸ hv)

theorem setPinBody_of_valid {i : EntryIndex} {on : Bool} (hp : c.params = [x, setting]) (hx : x.toNat = i.val)
    (hv : s.tu.entries[i].valid = true) (hb : boolOf setting = some on) : setPinBody c s = pinEntry i on s := by
  simp only [setPinBody, hp, indexOf_of_toNat hx, hb]
  exact if_pos hv

end

/-- R21: the reply to OK, with the count the statements name. -/
theorem pinReply_eq (i : EntryIndex) (s : State) :
    pinReply i s = (s, .now .ok [boolByte s.tu.entries[i].pinned, BitVec.ofNat 8 s.pins]) := by
  rw [← pinnedCount_eq_pins]; rfl

/-- R21: an entry whose pinned field is set to `b`. -/
def State.pinnedTo (i : EntryIndex) (b : Bool) (s : State) : State := s.updEntry i fun e => { e with pinned := b }

theorem pinnedTo_pinned (i : EntryIndex) (b : Bool) (s : State) : (s.pinnedTo i b).tu.entries[i].pinned = b := by
  simp [State.pinnedTo]

/-- R3: the pinned count where the pinned field of a valid entry is set to `b`. -/
theorem pins_pinnedTo {i : EntryIndex} {s : State} (hv : s.tu.entries[i].valid = true) (b : Bool) :
    (s.pinnedTo i b).pins + s.tu.entries[i].pinned.toNat = s.pins + b.toNat := by
  simpa only [State.pinnedTo, hv, Bool.true_and] using pins_updEntry i (fun e => { e with pinned := b }) s

section
variable {i : EntryIndex} {s : State}

theorem pinEntry_on_pinned (hpin : s.tu.entries[i].pinned = true) :
    pinEntry i true s = (s, .now .ok [1, BitVec.ofNat 8 s.pins]) := by
  simp only [pinEntry, hpin, pinReply_eq, if_true]
  rfl

theorem pinEntry_on_limit (hpin : s.tu.entries[i].pinned = false) (hcount : 48 ≤ s.pins) :
    pinEntry i true s = reject .pinLimit s := by
  simp [-Fin.getElem_fin, pinEntry, hpin, pinnedCount_eq_pins, Config.maxPinned, hcount]

theorem pinEntry_on_unpinned (hv : s.tu.entries[i].valid = true) (hpin : s.tu.entries[i].pinned = false)
    (hcount : s.pins < 48) :
    pinEntry i true s = (s.pinnedTo i true, .now .ok [1, BitVec.ofNat 8 (s.pins + 1)]) := by
  have hpins : (s.pinnedTo i true).pins = s.pins + 1 := by simpa [-Fin.getElem_fin, hpin] using pins_pinnedTo hv true
  have hbranch : pinEntry i true s = pinReply i (s.pinnedTo i true) := by
    simp [-Fin.getElem_fin, pinEntry, hpin, pinnedCount_eq_pins, Config.maxPinned, hcount, State.pinnedTo]
  rw [hbranch, pinReply_eq, hpins, pinnedTo_pinned]
  rfl

theorem pinEntry_off (hv : s.tu.entries[i].valid = true) :
    pinEntry i false s = (s.pinnedTo i false,
      .now .ok [0, BitVec.ofNat 8 (s.pins - if s.tu.entries[i].pinned = true then 1 else 0)]) := by
  have hpins : (s.pinnedTo i false).pins = s.pins - if s.tu.entries[i].pinned = true then 1 else 0 := by
    have h := pins_pinnedTo hv false
    cases hp : s.tu.entries[i].pinned <;> simp [-Fin.getElem_fin, hp] at h ⊢ <;> omega
  have hbranch : pinEntry i false s = pinReply i (s.pinnedTo i false) := rfl
  rw [hbranch, pinReply_eq, hpins, pinnedTo_pinned]
  rfl

end

/-- Settles O42: the cases of `setPinBody`, then those of `pinEntry`. -/
theorem setPinDecides : Obligations.SetPinDecides := by
  intro c x setting s h hp
  simp only [exec_setPin]
  refine ⟨fun hlarge => ?_, fun i hx => ⟨fun hv => ?_, fun hv hon hpin => ?_, fun hv hon hpin => ⟨fun hcount => ?_,
    fun hcount => ?_⟩, fun hv hoff => ?_⟩⟩
  · rw [takeCommand_reject h false (setPinBody_of_large hp hlarge)]
  · rw [takeCommand_reject h false (setPinBody_of_invalid hp hx hv)]
  · have hbody := setPinBody_of_valid hp hx hv (on := true) (by rw [hon]; rfl)
    rw [takeCommand_now h false (hbody.trans (pinEntry_on_pinned hpin)) (up_of_fromOwner h)]
  · have hbody := setPinBody_of_valid hp hx hv (on := true) (by rw [hon]; rfl)
    rw [takeCommand_reject h false (hbody.trans (pinEntry_on_limit hpin hcount))]
  · have hbody := setPinBody_of_valid hp hx hv (on := true) (by rw [hon]; rfl)
    rw [takeCommand_now h false (hbody.trans (pinEntry_on_unpinned hv hpin hcount)) (up_of_fromOwner h)]
    rfl
  · have hbody := setPinBody_of_valid hp hx hv (on := false) (by rw [hoff]; rfl)
    rw [takeCommand_now h false (hbody.trans (pinEntry_off hv)) (up_of_fromOwner h)]
    rfl

end Sys2Proof.Machine
end

section
/-! PROOFS. INSTALL ANY: the lowest invalid entry (R16) and the clock sweep (R17, R18). -/

namespace Sys2Proof.Machine

/-! ### The clock sweep -/

/-- R17: the table after the sweep has passed entry `i`. -/
def passEntry (i : EntryIndex) (es : Vector Entry 64) : Vector Entry 64 :=
  if es[i].pinned then es else es.set i.val { es[i] with hit := false } i.isLt

theorem getElem_passEntry (i j : EntryIndex) (es : Vector Entry 64) :
    (passEntry i es)[j] = if j = i ∧ es[i].pinned = false then { es[j] with hit := false } else es[j] := by
  unfold passEntry
  by_cases hj : j = i
  · subst hj; cases h : es[j].pinned <;> simp_all
  · have hne : i.val ≠ j.val := fun e => hj (Fin.ext e.symm)
    split <;> simp [hj, hne]

/-- R17: one entry of the sweep: it is passed where it is pinned or shows a hit, and it is the victim otherwise. -/
theorem sweep_succ (n : Nat) (i : EntryIndex) (es : Vector Entry 64) :
    sweep (n + 1) i es =
      if (es[i].pinned || es[i].hit) = true then sweep n (nextIndex i) (passEntry i es) else some (i, es) := by
  rw [sweep]
  cases hp : es[i].pinned <;> simp [-Fin.getElem_fin, passEntry, hp]

/-- R17: the table after the sweep has passed the `k` entries from `i` upward. -/
def clearedAhead (i : EntryIndex) (k : Nat) (es : Vector Entry 64) : Vector Entry 64 :=
  Vector.ofFn fun j => if (j - i).val < k ∧ es[j].pinned = false then { es[j] with hit := false } else es[j]

theorem getElem_clearedAhead (i j : EntryIndex) (k : Nat) (es : Vector Entry 64) :
    (clearedAhead i k es)[j] =
      if (j - i).val < k ∧ es[j].pinned = false then { es[j] with hit := false } else es[j] := by
  simp [clearedAhead]

/-- Two tables that agree at every index are the same. -/
theorem entries_ext {es es' : Vector Entry 64} (h : ∀ j : EntryIndex, es[j] = es'[j]) : es = es' :=
  Vector.ext fun j hj => h ⟨j, hj⟩

theorem clearedAhead_pinned (i j : EntryIndex) (k : Nat) (es : Vector Entry 64) :
    (clearedAhead i k es)[j].pinned = es[j].pinned := by
  rw [getElem_clearedAhead]; split <;> rfl

/-- The sweep's next entry extends the passed part of the table by one. -/
theorem passEntry_clearedAhead {i w : EntryIndex} {k : Nat} (hk : (w - i).val = k) (es : Vector Entry 64) :
    passEntry w (clearedAhead i k es) = clearedAhead i (k + 1) es := by
  refine entries_ext fun j => ?_
  have hlt : (j - i).val < k + 1 ↔ (j - i).val < k ∨ j = w := by
    rw [Nat.lt_succ_iff_lt_or_eq, ← hk, Fin.val_inj, sub_left_inj]
  rw [getElem_passEntry, clearedAhead_pinned, getElem_clearedAhead, getElem_clearedAhead]
  simp only [hlt]
  by_cases hj : j = w
  · subst hj
    simp only [hk, lt_irrefl, false_and, if_false, true_and, or_true]
  · simp only [hj, false_and, if_false, or_false]

/-- R17: the sweep passes an entry that is pinned or shows a hit. -/
theorem sweep_pass {i w : EntryIndex} {k : Nat} {es : Vector Entry 64} (hk : (w - i).val = k) (n : Nat)
    (hpass : es[w].pinned = false → es[w].hit = true) :
    sweep (n + 1) w (clearedAhead i k es) = sweep n (nextIndex w) (clearedAhead i (k + 1) es) := by
  have hentry : (clearedAhead i k es)[w] = es[w] := by
    rw [getElem_clearedAhead, if_neg (fun h => absurd h.1 (by omega))]
  have hpassed : (es[w].pinned || es[w].hit) = true := by
    cases hp : es[w].pinned
    · exact hpass hp
    · rfl
  rw [sweep_succ, hentry, if_pos hpassed, passEntry_clearedAhead hk]

/-- R17: the sweep from `i` reaches `v` where every entry between is pinned or shows a hit. -/
theorem sweep_reaches {i v : EntryIndex} {k : Nat} {es : Vector Entry 64} (hk : (v - i).val = k) (n : Nat)
    (hpass : ∀ j : EntryIndex, (j - i).val < k → es[j].pinned = false → es[j].hit = true) :
    sweep (n + k) i es = sweep n v (clearedAhead i k es) := by
  induction k generalizing v n with
  | zero =>
    have hv : v = i := sub_eq_zero.1 (Fin.ext hk)
    have htable : clearedAhead i 0 es = es :=
      entries_ext fun j => by rw [getElem_clearedAhead, if_neg fun h => Nat.not_lt_zero _ h.1]
    rw [htable, hv, Nat.add_zero]
  | succ k ih =>
    have hprev : (v - 1 - i).val = k := by
      rw [sub_right_comm, Fin.val_sub_one_of_ne_zero (fun h => by simp [h] at hk), hk, Nat.add_sub_cancel]
    calc sweep (n + (k + 1)) i es
        = sweep (n + 1 + k) i es := congrArg (sweep · i es) (by omega)
      _ = sweep (n + 1) (v - 1) (clearedAhead i k es) := ih hprev _ fun j hj => hpass j (by omega)
      _ = sweep n (nextIndex (v - 1)) (clearedAhead i (k + 1) es) := sweep_pass hprev n (hpass _ (by omega))
      _ = sweep n v (clearedAhead i (k + 1) es) := by rw [nextIndex, sub_add_cancel]

/-- R17: the first unpinned entry with a clear hit flag is the victim; the hit flags of the entries before it that are
unpinned are cleared. -/
theorem sweep_finds {n : Nat} {i v : EntryIndex} {es : Vector Entry 64} (hn : (v - i).val < n)
    (hpin : es[v].pinned = false) (hhit : es[v].hit = false)
    (hpass : ∀ j : EntryIndex, (j - i).val < (v - i).val → es[j].pinned = false → es[j].hit = true) :
    sweep n i es = some (v, clearedAhead i (v - i).val es) := by
  obtain ⟨m, rfl⟩ : ∃ m, n = m + 1 + (v - i).val := ⟨n - 1 - (v - i).val, by omega⟩
  have hentry : (clearedAhead i (v - i).val es)[v] = es[v] := by
    rw [getElem_clearedAhead, if_neg fun h => lt_irrefl _ h.1]
  rw [sweep_reaches rfl _ hpass, sweep_succ, hentry, hpin, hhit]
  rfl

/-- R17: a whole pass in which no victim is found clears the hit flag of every unpinned entry. -/
theorem sweep_pass_all {i : EntryIndex} {es : Vector Entry 64} (n : Nat)
    (hhit : ∀ j : EntryIndex, es[j].pinned = false → es[j].hit = true) :
    sweep (n + 64) i es = sweep n i (clearedAhead i 64 es) := by
  have hlast : (i - 1 - i).val = 63 := by rw [sub_right_comm, sub_self]; rfl
  calc sweep (n + 64) i es
      = sweep (n + 1 + 63) i es := rfl
    _ = sweep (n + 1) (i - 1) (clearedAhead i 63 es) := sweep_reaches hlast _ fun j _ => hhit j
    _ = sweep n (nextIndex (i - 1)) (clearedAhead i 64 es) := sweep_pass hlast n (hhit _)
    _ = sweep n i (clearedAhead i 64 es) := by rw [nextIndex, sub_add_cancel]

theorem clearedAhead_hit {i v : EntryIndex} {k : Nat} {es : Vector Entry 64} (hk : (v - i).val < k)
    (hpin : es[v].pinned = false) : (clearedAhead i k es)[v].hit = false := by
  rw [getElem_clearedAhead, if_pos ⟨hk, hpin⟩]

/-- R17, R18: where every unpinned entry shows a hit, the first pass clears all of them, and the first unpinned entry
is the victim. -/
theorem sweep_finds_second_pass {n : Nat} {i v : EntryIndex} {es : Vector Entry 64} (hn : 128 ≤ n)
    (hpin : es[v].pinned = false)
    (hhit : ∀ j : EntryIndex, es[j].pinned = false → es[j].hit = true)
    (hfirst : ∀ j : EntryIndex, es[j].pinned = false → (v - i).val ≤ (j - i).val) :
    sweep n i es = some (v, clearedAhead i 64 es) := by
  obtain ⟨m, rfl⟩ : ∃ m, n = m + 64 := ⟨n - 64, by omega⟩
  have hskipped (j : EntryIndex) (hj : (j - i).val < (v - i).val) : es[j].pinned ≠ false :=
    fun h => absurd (hfirst j h) (by omega)
  have hsecond : clearedAhead i (v - i).val (clearedAhead i 64 es) = clearedAhead i 64 es :=
    entries_ext fun j => by
      rw [getElem_clearedAhead, clearedAhead_pinned, if_neg fun h => hskipped j h.1 h.2]
  rw [sweep_pass_all m hhit, sweep_finds (v := v) (by omega) ((clearedAhead_pinned ..).trans hpin)
    (clearedAhead_hit (v - i).isLt hpin), hsecond]
  intro j hj hunpinned
  rw [clearedAhead_pinned] at hunpinned
  exact absurd hunpinned (hskipped j hj)

/-! ### Where INSTALL ANY places -/

theorem lowestInvalid_eq_some {s : State} {v : EntryIndex} (hv : s.tu.entries[v].valid = false)
    (hlow : ∀ j < v, s.tu.entries[j].valid = true) : s.lowestInvalid = some v := by
  refine List.find?_eq_some_iff_getElem.2 ⟨by rw [hv]; rfl, v.val, by simp, by simp, fun j hj => ?_⟩
  have hvalid := hlow ⟨j, hj.trans v.isLt⟩ hj
  simpa using hvalid

theorem lowestInvalid_eq_none_iff {s : State} :
    s.lowestInvalid = none ↔ ∀ j : EntryIndex, s.tu.entries[j].valid = true := by
  simp [State.lowestInvalid]

/-- R16: with an invalid entry, the lowest-numbered one is used and nothing else changes. -/
theorem chooseAny_of_invalid {s : State} {v : EntryIndex} (hv : s.tu.entries[v].valid = false)
    (hlow : ∀ j < v, s.tu.entries[j].valid = true) : s.chooseAny = some (v, s) := by
  simp [State.chooseAny, lowestInvalid_eq_some hv hlow]

/-- R17: with all entries valid, the sweep's victim is used. -/
theorem chooseAny_of_sweep {s : State} {v : EntryIndex} {es : Vector Entry 64}
    (hvalid : ∀ j : EntryIndex, s.tu.entries[j].valid = true)
    (hsweep : sweep sweepBound s.tu.clock s.tu.entries = some (v, es)) :
    s.chooseAny = some (v, { s with tu := { entries := es, clock := v + 1 } }) := by
  simp [State.chooseAny, lowestInvalid_eq_none_iff.2 hvalid, hsweep, nextIndex]

/-! ### INSTALL ANY from end to end -/

theorem exec_installAny (c : Command) (s : State) : exec (.installAny c) s = execInstallAny c s := rfl

/-- R12 to R14: an INSTALL ANY that passes its checks is placed where R16 and R17 choose. -/
theorem installAnyBody_of_checks {c : Command} {a : InstallArgs} {s s1 : State} {v : EntryIndex}
    (hargs : installOf c.params = some a) (hany : a.index = 0xFF) (hfits : Fits s.ownNode a)
    (hfree : ¬ Clashes a (fun _ => False) s) (hroom : a.pin = true → s.pins < 48)
    (hplace : s.chooseAny = some (v, s1)) :
    installAnyBody c s = some (placeAt v a s1) := by
  have hbad := (bad_eq_false_iff ..).2 hfits
  have hoverlap : overlapLawBroken a (fun _ => false) s = false := by
    rwa [← Bool.not_eq_true, overlapLawBroken_iff (P := fun _ => False) (by simp)]
  have hlimit : pinLimitBroken a (fun _ => false) s = false := by
    rw [pinLimitBroken_eq_false_iff]
    exact fun hpin => (pinnedCount_eq_pins s).trans_lt (hroom hpin)
  simp [installAnyBody, hargs, hany, hbad, hoverlap, hlimit, hplace]

/-- R16 to R20: what an INSTALL ANY that passes its checks leaves and answers, the Translation Unit being `tu` after the
choice. -/
theorem exec_installAny_places {c : Command} {a : InstallArgs} {s : State} {v : EntryIndex} {tu : TransUnit}
    (h : FromOwner 0x30 c s) (hbody : installAnyBody c s = some (placeAt v a { s with tu := tu })) :
    exec (.installAny c) s = .next (((({ s with tu := tu } : State).placed v a).resolved a.ticket).answered 0x30 c .ok
      [BitVec.ofNat 8 v.val, boolByte tu.entries[v].valid, s.resolveOutcome a.ticket]) := by
  rw [exec_installAny, execInstallAny, envelope_of_fromOwner h, hbody]
  simp only [placeAt_eq]
  rw [finish_now (owner_of_fromOwner h) (by simpa using up_of_fromOwner h)]
  rfl

/-- Settles O41: the choice of R16, or the sweep of R17 in one pass or two, then the placement. -/
theorem installAnyPlaces : Obligations.InstallAnyPlaces := by
  intro c a v s h hargs hany hfits hfree hroom
  have hbody {s1 : State} := installAnyBody_of_checks (s1 := s1) (v := v) hargs hany hfits hfree hroom
  refine ⟨fun hv hlow => ?_, fun hvalid hpin => ⟨fun es hhit hpass hes => ?_, fun es hhit hfirst hes => ?_⟩⟩
  · have hexec := exec_installAny_places (tu := s.tu) h (hbody (chooseAny_of_invalid hv hlow))
    rwa [hv] at hexec
  · have hsweep : sweep sweepBound s.tu.clock s.tu.entries = some (v, es) := by
      rw [sweep_finds (lt_trans (Fin.isLt _) (by decide)) hpin hhit hpass]
      exact congrArg (fun t => some (v, t)) (entries_ext fun j => by rw [getElem_clearedAhead, hes])
    have hexec := exec_installAny_places h (hbody (chooseAny_of_sweep hvalid hsweep))
    have hdisplaced : es[v].valid = true := by rw [hes]; split <;> exact hvalid v
    rwa [hdisplaced] at hexec
  · have hsweep : sweep sweepBound s.tu.clock s.tu.entries = some (v, es) := by
      rw [sweep_finds_second_pass (n := sweepBound) le_rfl hpin hhit hfirst]
      exact congrArg (fun t => some (v, t)) (entries_ext fun j => by rw [getElem_clearedAhead, hes]; simp)
    have hexec := exec_installAny_places h (hbody (chooseAny_of_sweep hvalid hsweep))
    have hdisplaced : es[v].valid = true := by rw [hes]; split <;> exact hvalid v
    rwa [hdisplaced] at hexec

end Sys2Proof.Machine
end

section
/-! PROOFS. The parameters of the commands over streams and domains (R187, R188), and what a write of the Domain Unit
leaves of the rest of the part (R30, R34). -/

namespace Sys2Proof.Machine

/-! ### Parameters of streams and domains -/

theorem portOf_of_toNat {b : Byte} {p : Port} (h : b.toNat = p.val) : portOf b = some p := finOf_eq_some_iff.2 h

theorem portOf_of_large {b : Byte} (h : 3 < b.toNat) : portOf b = none := finOf_eq_none_iff.2 h

theorem streamOf_of_toNat {b : Byte} {st : Stream} (h : b.toNat = st.val) : streamOf b = some st :=
  finOf_eq_some_iff.2 h

theorem streamOf_of_large {b : Byte} (h : 15 < b.toNat) : streamOf b = none := finOf_eq_none_iff.2 h

theorem domainOf_eq_some_iff {b : Byte} {d : Domain} : domainOf b = some d ↔ b.toNat = d.val := finOf_eq_some_iff

theorem domainOf_of_large {b : Byte} (h : 15 < b.toNat) : domainOf b = none := finOf_eq_none_iff.2 h

/-- R29: a binding byte above 15 other than 0xFF names nothing. -/
theorem bindingOf_of_large {b : Byte} (h : 15 < b.toNat) (hne : b ≠ 0xFF) : bindingOf b = none := by
  simp only [bindingOf, if_neg hne, domainOf_of_large h]

theorem bindingOf_of_names {b : Byte} {o : Option Domain}
    (h : b = 0xFF ∧ o = none ∨ ∃ d : Domain, o = some d ∧ b.toNat = d.val) : bindingOf b = some o := by
  obtain ⟨rfl, rfl⟩ | ⟨d, rfl, hd⟩ := h
  · rfl
  · have hne : b ≠ 0xFF := by
      rintro rfl
      have : (0xFF : Byte).toNat = 255 := rfl
      omega
    simp only [bindingOf, if_neg hne, domainOf_eq_some_iff.2 hd]

theorem domainStateOf_eq_some_iff {b : Byte} {x : DomainState} :
    domainStateOf b = some x ↔ b.toNat ≤ 2 ∧ x = if b = 0 then .active else if b = 1 then .paused else .barred := by
  unfold domainStateOf
  split_ifs with h0 h1 h2
  · simp [h0, eq_comm]
  · simp [h1, eq_comm]
  · simp [h2, eq_comm]
  · simp only [false_iff, not_and]
    bv_omega

theorem policyOf_eq_some_iff {b : Byte} {x : MissPolicy} :
    policyOf b = some x ↔ b.toNat ≤ 1 ∧ x = if b = 0 then .hold else .fail := by
  unfold policyOf
  split_ifs with h0 h1
  · simp [h0, eq_comm]
  · simp [h1, eq_comm]
  · simp only [false_iff, not_and]
    bv_omega

theorem boolOf_eq_some_iff {b : Byte} {x : Bool} : boolOf b = some x ↔ b.toNat ≤ 1 ∧ x = decide (b = 1) := by
  unfold boolOf
  split_ifs with h0 h1
  · simp [h0, eq_comm]
  · simp [h1, eq_comm]
  · simp only [false_iff, not_and]
    bv_omega

theorem permsOf_eq_some_iff {b : Byte} {x : Perms} :
    permsOf b = some x ↔ b.toNat ≤ 7 ∧ x = { r := b.getLsbD 2, w := b.getLsbD 1, p := b.getLsbD 0 } := by
  simp [permsOf, Nat.lt_succ_iff, eq_comm]

theorem rangeOf_eq_some_iff {lo hi : Nat} {b x : Byte} :
    rangeOf lo hi b = some x ↔ (lo ≤ b.toNat ∧ b.toNat ≤ hi) ∧ x = b := by
  simp [rangeOf, eq_comm]

/-- R33: SET DOMAIN's seven parameters are read one by one. -/
theorem setDomainOf_eq_some_iff {domain state policy ceiling quota limit report q l : Byte} {d : Domain}
    {st : DomainState} {pol : MissPolicy} {ceil : Perms} {rep : Bool} :
    setDomainOf [domain, state, policy, ceiling, quota, limit, report] = some (d, ⟨st, pol, ceil, q, l, rep⟩) ↔
      domainOf domain = some d ∧ domainStateOf state = some st ∧ policyOf policy = some pol ∧
      permsOf ceiling = some ceil ∧ rangeOf 1 16 quota = some q ∧ rangeOf 1 32 limit = some l ∧
      boolOf report = some rep := by
  simp only [setDomainOf]
  split
  · simp_all
  · next hnone =>
    simp only [reduceCtorEq, false_iff]
    rintro ⟨hd, hst, hpol, hceil, hq, hl, hrep⟩
    exact hnone _ _ _ _ _ _ _ hd hst hpol hceil hq hl hrep

/-! ### Stale marking behind a write of the Domain Unit -/

theorem mark_ofStream (p : Port) (st : Stream) : Staged.mark (ofStream p st) =
    fun q => if q.req.port = p ∧ q.req.stream = st then { q with stale := true } else q := by
  funext q; simp [Staged.mark, ofStream]

theorem mark_ofDomain (d : Domain) : Staged.mark (ofDomain d) =
    fun q => if q.domain = d then { q with stale := true } else q := by
  funext q; simp [Staged.mark, ofDomain]

/-- R30, R34: outside the Domain Unit, `t` is `s` with the five staging positions changed by `mark`. -/
def MarkedOutsideDU (mark : Staged → Staged) (s t : State) : Prop :=
  (∀ p : Port, t.ports[p] = { s.ports[p] with staging := s.ports[p].staging.map mark }) ∧
  t.mu = { s.mu with rp := s.mu.rp.map mark } ∧ t.tu = s.tu ∧ t.fu = s.fu ∧ t.mc = s.mc ∧ t.tb = s.tb ∧
  t.fl = s.fl ∧ t.fabric = s.fabric ∧ t.strap = s.strap ∧ t.phase = s.phase ∧ t.sent = s.sent ∧
  t.pending = s.pending

theorem markedOutsideDU_markStale (hits : Staged → Bool) (du : DomainUnit) (s : State) :
    MarkedOutsideDU (Staged.mark hits) s (markStale hits { s with du := du }) :=
  ⟨fun p => markStale_ports _ _ p.val p.isLt, rfl, rfl, rfl, rfl, rfl, rfl, rfl, rfl, rfl, rfl, rfl⟩

end Sys2Proof.Machine
end

section
/-! PROOFS. BIND STREAM, READ STREAM, SET DOMAIN and READ DOMAIN (R29 to R31, R33 to R35). -/

namespace Sys2Proof.Machine

/-! ### BIND STREAM -/

theorem exec_bindStream (c : Command) (s : State) :
    exec (.bindStream c) s = .next (takeCommand 0x20 false c (bindStreamBody c) s) := rfl

section
variable {c : Command} {port stream binding : Byte} {s : State}

theorem bindStreamBody_of_large (hp : c.params = [port, stream, binding])
    (h : 3 < port.toNat ∨ 15 < stream.toNat ∨ (15 < binding.toNat ∧ binding ≠ 0xFF)) :
    bindStreamBody c s = reject .badParam s := by
  obtain hport | hstream | ⟨hbinding, hne⟩ := h
  · simp [bindStreamBody, hp, portOf_of_large hport]
  · simp [bindStreamBody, hp, streamOf_of_large hstream]
  · simp [bindStreamBody, hp, bindingOf_of_large hbinding hne]

theorem bindStreamBody_of_names {p : Port} {st : Stream} {b : Option Domain} (hp : c.params = [port, stream, binding])
    (hport : port.toNat = p.val) (hstream : stream.toNat = st.val) (hbinding : bindingOf binding = some b) :
    bindStreamBody c s = accept [bindingByte s.du.streams[p][st]] (bindSlot p st b s) := by
  simp only [bindStreamBody, hp, portOf_of_toNat hport, streamOf_of_toNat hstream, hbinding]

end

/-- R29: the Stream Map after BIND STREAM. -/
theorem bindSlot_streams (p p' : Port) (st st' : Stream) (b : Option Domain) (s : State) :
    (bindSlot p st b s).du.streams[p'][st'] = if p' = p ∧ st' = st then b else s.du.streams[p'][st'] := by
  by_cases hp : p' = p
  · subst hp
    simp [bindSlot, Vector.getElem_set, Fin.ext_iff, eq_comm]
  · have hval : p.val ≠ p'.val := fun h => hp (Fin.ext h.symm)
    simp [bindSlot, hp, hval]

/-- Settles O34: the cases of `bindStreamBody`, then the write of the slot and its stale marking. -/
theorem bindStreamWrites : Obligations.BindStreamWrites := by
  intro c port stream binding s h hp
  simp only [exec_bindStream]
  refine ⟨fun hlarge => ?_, fun p st b hport hstream hbinding => ⟨bindSlot p st b s, ?_, ?_, rfl, ?_⟩⟩
  · rw [takeCommand_reject h false (bindStreamBody_of_large hp hlarge)]
  · have hbody := bindStreamBody_of_names (s := s) hp hport hstream (bindingOf_of_names hbinding)
    rw [takeCommand_now h false hbody (up_of_fromOwner h)]
    rfl
  · exact fun p' st' => bindSlot_streams p p' st st' b s
  · rw [← mark_ofStream]
    exact markedOutsideDU_markStale _ _ s

/-! ### SET DOMAIN -/

theorem exec_setDomain (c : Command) (s : State) :
    exec (.setDomain c) s = .next (takeCommand 0x22 false c (setDomainBody c) s) := rfl

theorem setDomainBody_of_none {c : Command} {s : State} (h : setDomainOf c.params = none) :
    setDomainBody c s = reject .badParam s := by
  rw [setDomainBody, h]

theorem setDomainBody_of_some {c : Command} {s : State} {d : Domain} {r : DomainRec}
    (h : setDomainOf c.params = some (d, r)) : setDomainBody c s = accept [] (writeDomain d r s) := by
  rw [setDomainBody, h]

/-- R33: the Domain Table after SET DOMAIN. -/
theorem writeDomain_domains (d e : Domain) (r : DomainRec) (s : State) :
    (writeDomain d r s).du.domains[e] = if e = d then r else s.du.domains[e] := by
  simp [writeDomain, Vector.getElem_set, Fin.ext_iff, eq_comm]

/-- Settles O35: the parameters read one by one, then the write of the record and its stale marking. -/
theorem setDomainWrites : Obligations.SetDomainWrites := by
  intro c domain state policy ceiling quota limit report s h hp
  simp only [exec_setDomain]
  refine ⟨fun hbad => ?_, fun d hgood hd => ?_⟩
  · have hnone : setDomainOf c.params = none := by
      rw [hp, Option.eq_none_iff_forall_ne_some]
      rintro ⟨d, ⟨⟩⟩ hsome
      simp only [setDomainOf_eq_some_iff, domainOf_eq_some_iff, domainStateOf_eq_some_iff, policyOf_eq_some_iff,
        permsOf_eq_some_iff, rangeOf_eq_some_iff, boolOf_eq_some_iff] at hsome
      obtain ⟨hd, ⟨hstate, -⟩, ⟨hpolicy, -⟩, ⟨hceiling, -⟩, ⟨hquota, -⟩, ⟨hlimit, -⟩, hreport, -⟩ := hsome
      exact hbad ⟨by omega, hstate, hpolicy, hceiling, hquota, hlimit, hreport⟩
    rw [takeCommand_reject h false (setDomainBody_of_none hnone)]
  · obtain ⟨-, hstate, hpolicy, hceiling, hquota, hlimit, hreport⟩ := hgood
    have hsome := setDomainOf_eq_some_iff.2 ⟨domainOf_eq_some_iff.2 hd, domainStateOf_eq_some_iff.2 ⟨hstate, rfl⟩,
      policyOf_eq_some_iff.2 ⟨hpolicy, rfl⟩, permsOf_eq_some_iff.2 ⟨hceiling, rfl⟩,
      rangeOf_eq_some_iff.2 ⟨hquota, rfl⟩, rangeOf_eq_some_iff.2 ⟨hlimit, rfl⟩, boolOf_eq_some_iff.2 ⟨hreport, rfl⟩⟩
    rw [← hp] at hsome
    refine ⟨_, by rw [takeCommand_now h false (setDomainBody_of_some hsome) (up_of_fromOwner h)],
      fun e => writeDomain_domains d e _ s, rfl, ?_⟩
    rw [← mark_ofDomain]
    exact markedOutsideDU_markStale _ _ s

/-! ### READ STREAM -/

theorem exec_readStream (c : Command) (s : State) :
    exec (.readStream c) s = .next (takeCommand 0x21 false c (readStreamBody c) s) := rfl

section
variable {c : Command} {port stream : Byte} {s : State}

/-- R31: a READ STREAM of the owner for a port above 3 or a stream above 15. -/
theorem exec_readStream_of_large (h : FromOwner 0x21 c s) (hp : c.params = [port, stream])
    (hlarge : 3 < port.toNat ∨ 15 < stream.toNat) :
    exec (.readStream c) s = .next (s.answered 0x21 c .badParam []) := by
  rw [exec_readStream, takeCommand_reject h false]
  obtain hport | hstream := hlarge
  · simp [readStreamBody, hp, portOf_of_large hport]
  · simp [readStreamBody, hp, streamOf_of_large hstream]

/-- R31: a READ STREAM of the owner for slot `st` of port `p`. -/
theorem exec_readStream_of_names {p : Port} {st : Stream} (h : FromOwner 0x21 c s) (hp : c.params = [port, stream])
    (hport : port.toNat = p.val) (hstream : stream.toNat = st.val) :
    exec (.readStream c) s = .next (s.answered 0x21 c .ok [bindingByte s.du.streams[p][st]]) := by
  rw [exec_readStream, takeCommand_now h false _ (up_of_fromOwner h)]
  simp only [readStreamBody, hp, portOf_of_toNat hport, streamOf_of_toNat hstream, accept]

end

/-! ### READ DOMAIN -/

theorem exec_readDomain (c : Command) (s : State) :
    exec (.readDomain c) s = .next (takeCommand 0x23 false c (readDomainBody c) s) := rfl

/-- R35: a READ DOMAIN of the owner for a domain above 15. -/
theorem exec_readDomain_of_large {c : Command} {domain : Byte} {s : State} (h : FromOwner 0x23 c s)
    (hp : c.params = [domain]) (hlarge : 15 < domain.toNat) :
    exec (.readDomain c) s = .next (s.answered 0x23 c .badParam []) := by
  rw [exec_readDomain, takeCommand_reject h false]
  simp [readDomainBody, hp, domainOf_of_large hlarge]

/-- R35: a READ DOMAIN of the owner for domain `d`. -/
theorem exec_readDomain_of_domain {c : Command} {domain : Byte} {d : Domain} {s : State} (h : FromOwner 0x23 c s)
    (hp : c.params = [domain]) (hd : domain.toNat = d.val) :
    exec (.readDomain c) s = .next (s.answered 0x23 c .ok (domainResults d s)) := by
  rw [exec_readDomain, takeCommand_now h false _ (up_of_fromOwner h)]
  simp only [readDomainBody, hp, domainOf_eq_some_iff.2 hd, accept]

/-- R187: a permission byte as the sum of its bits. -/
theorem Perms.byte_eq_sum (x : Perms) : x.byte =
    (if x.r = true then 4 else 0) + (if x.w = true then 2 else 0) + (if x.p = true then 1 else 0) := by
  obtain ⟨r, w, p⟩ := x
  revert r w p
  decide

/-- R40: the live records of a domain, listed. -/
theorem liveMisses_eq_length (d : Domain) (s : State) :
    s.liveMisses d = (s.mu.records.filter fun m => m.domain = d).length := by
  simp [State.liveMisses, List.countP_eq_length_filter, Bool.beq_eq_decide_eq]

/-- R41: the ORT slots of a domain, listed. -/
theorem ortUse_eq_length (d : Domain) (s : State) :
    s.ortUse d = (s.occupiedSlots.filter fun i => s.fu.ort[i].domain = d).length := by
  rw [State.ortUse, State.occupiedSlots, List.countP_eq_length_filter, List.filter_filter]
  exact congrArg List.length (List.filter_congr fun _ _ => Bool.and_comm ..)

/-- Settles O36: the replies by the slot and the domain read, and the domain's counts as lengths. -/
theorem streamAndDomainReads : Obligations.StreamAndDomainReads := by
  refine ⟨fun c port stream s h hp => ⟨exec_readStream_of_large h hp, fun p st hport hstream => ?_⟩,
    fun c domain s h hp => ⟨exec_readDomain_of_large h hp, fun d hd => ?_⟩⟩
  · rw [exec_readStream_of_names h hp hport hstream]
    rfl
  · rw [exec_readDomain_of_domain h hp hd, domainResults, Perms.byte_eq_sum, liveMisses_eq_length, ortUse_eq_length]
    rfl

end Sys2Proof.Machine
end

section
/-! PROOFS. The client links and the fabric link come UP (R46, R168). -/

namespace Sys2Proof.Machine

/-! ### Packets handed to a client port -/

/-- R60: over an UP link the packet leaves, and nothing else changes. -/
theorem sendClient_of_up {p : Port} {s : State} (h : s.ports[p].link = .up) (pkt : ClientPacket) :
    sendClient p pkt s = { s with sent := s.sent ++ [.client p pkt] } := by
  rw [sendClient, if_pos h, State.emit]

/-- R61, R183: the CREDIT the part sends, in the words of the statements. -/
theorem creditPacket_eq_creditOf (n : Nat) : creditPacket n = creditOf (BitVec.ofNat 16 n) := rfl

/-! ### CLIENT_LINK_UP -/

theorem exec_clientLinkUp (p : Port) (s : State) : exec (.clientLinkUp p) s = execClientLinkUp p s := rfl

/-- R46: the link is UP before the CREDIT is handed to it, so the CREDIT leaves. -/
theorem clientUp_eq (p : Port) (s : State) :
    clientUp p s = { s with
      ports := s.ports.set p.val { s.ports[p] with link := .up, credits := 8 } p.isLt
      sent := s.sent ++ [.client p (creditOf 8)] } := by
  have hup : (s.updPort p fun c => { c with link := .up, credits := Config.queueCapacity }).ports[p].link = .up := by
    rw [State.updPort_ports_self]
  rw [clientUp, sendClient_of_up hup, creditPacket_eq_creditOf]
  rfl

/-- R46: while the part runs, a client link that is DOWN comes UP. -/
theorem exec_clientLinkUp_of_down {p : Port} {s : State} (hrun : s.phase = .running)
    (hdown : s.ports[p].link = .down) : exec (.clientLinkUp p) s = .next (clientUp p s) := by
  rw [exec_clientLinkUp, execClientLinkUp, if_pos ⟨hrun, hdown⟩]

/-! ### FABRIC_LINK_UP -/

theorem exec_fabricLinkUp (s : State) : exec .fabricLinkUp s = execFabricLinkUp s := rfl

/-- R168: while the part runs, the fabric link comes UP and nothing else changes. -/
theorem exec_fabricLinkUp_of_running {s : State} (hrun : s.phase = .running) :
    exec .fabricLinkUp s = .next { s with fabric := .up } := by
  rw [exec_fabricLinkUp, execFabricLinkUp, if_pos hrun]

/-- Settles O2: the client link by what `clientUp` writes and sends, the fabric link by its one field. -/
theorem linksComeUp : Obligations.LinksComeUp := fun s hrun =>
  ⟨fun p hdown => by rw [exec_clientLinkUp_of_down hrun hdown, clientUp_eq], exec_fabricLinkUp_of_running hrun⟩

end Sys2Proof.Machine
end

section
/-! PROOFS. The arbiter: who is eligible (R68), the rotation (R69), what a grant writes and sends (R71, R72, R106). -/

namespace Sys2Proof.Machine

/-! ### The first in an order -/

/-- In a list ordered by `f`, a search finds the member with the least `f` among those searched for. -/
theorem find?_eq_some_of_least {α : Type} {p : α → Bool} {f : α → Nat} {l : List α} {a : α}
    (hord : l.Pairwise fun x y => f x < f y) (hmem : a ∈ l) (ha : p a = true) (hleast : ∀ b, p b = true → f a ≤ f b) :
    l.find? p = some a := by
  obtain ⟨before, after, rfl⟩ := List.append_of_mem hmem
  refine List.find?_eq_some_iff_append.2 ⟨ha, before, after, rfl, fun b hb => ?_⟩
  have hlt : f b < f a := (List.pairwise_append.1 hord).2.2 b hb a List.mem_cons_self
  simpa using fun hpb => (hleast b hpb).not_gt hlt

/-! ### The slot -/

/-- R71: the lowest-numbered free slot is the one a grant takes. -/
theorem lowestFree_eq_some {s : State} {i : SlotIndex} (hfree : s.fu.ort[i].occupied = false)
    (hlow : ∀ j < i, s.fu.ort[j].occupied = true) : s.lowestFree = some i := by
  refine find?_eq_some_of_least (f := Fin.val) (List.pairwise_lt_finRange 32) (List.mem_finRange i)
    (by rw [hfree]; rfl) fun j hj => not_lt.1 fun hlt => ?_
  exact absurd (hlow j hlt) (by simpa using hj)

theorem lowestFree_eq_none_iff {s : State} : s.lowestFree = none ↔ ∀ i : SlotIndex, s.fu.ort[i].occupied = true := by
  simp [State.lowestFree]

/-! ### The rotation -/

/-- R68: a requester is eligible where it holds a grantable request and a slot is free. -/
theorem eligible_iff {s : State} {r : Requester} :
    s.eligible r = true ↔ (∃ q, s.Ready r q) ∧ s.lowestFree.isSome = true := by
  unfold State.eligible
  cases hq : s.stagedAt r with
  | none => simp [State.Ready, hq]
  | some q => simp [State.Ready, hq]

/-- R69: every requester is looked at. -/
theorem mem_lookOrder (ptr r : Requester) : r ∈ lookOrder ptr := by
  cases ptr with
  | cp p => cases r with
    | cp p' => revert p p'; decide
    | rp => revert p; decide
  | rp => cases r with
    | cp p' => revert p'; decide
    | rp => decide

/-- R69: the arbiter looks at the requesters in the order of their distance from its pointer. -/
theorem lookOrder_pairwise (ptr : Requester) :
    (lookOrder ptr).Pairwise fun r r' => Requester.after ptr r < Requester.after ptr r' := by
  cases ptr with
  | cp p => revert p; decide
  | rp => decide

/-- R69: with a slot free, the first grantable requester in the rotation wins. -/
theorem winner_eq_some {s : State} {w : Requester} {q : Staged} (hready : s.Ready w q)
    (hfirst : ∀ w' q', s.Ready w' q' → Requester.after s.fu.pointer w ≤ Requester.after s.fu.pointer w')
    (hfree : s.lowestFree.isSome = true) : s.winner = some w := by
  refine find?_eq_some_of_least (lookOrder_pairwise s.fu.pointer) (mem_lookOrder s.fu.pointer w)
    (eligible_iff.2 ⟨⟨q, hready⟩, hfree⟩) fun w' hw' => ?_
  obtain ⟨⟨q', hready'⟩, -⟩ := eligible_iff.1 hw'
  exact hfirst w' q' hready'

/-- R68: with no grantable request nobody wins. -/
theorem winner_eq_none {s : State} (h : ∀ w q, ¬ s.Ready w q) : s.winner = none := by
  refine List.find?_eq_none.2 fun w _ hw => ?_
  obtain ⟨⟨q, hready⟩, -⟩ := eligible_iff.1 hw
  exact h w q hready

/-! ### The grant -/

/-- R71, R106: how the winner's staging position empties, in the words of the statements. -/
theorem leaveStaging_eq (w : Requester) (s : State) :
    leaveStaging w s = match w with | .cp p => s.unstaged p | .rp => s.replayGone := by
  cases w with
  | cp p => rfl
  | rp => rfl

/-- R67: the tag of a slot and an incarnation, in the words of the statements. -/
theorem upstreamTag_eq (i : SlotIndex) (incarnation : BitVec 3) :
    upstreamTag i incarnation = BitVec.ofNat 8 (8 * i.val + incarnation.toNat) := by
  rw [upstreamTag, numByte, Nat.mul_comm]

/-- R184: the kind byte of a request packet. -/
theorem fabricCode_eq (k : ReqKind) :
    k.fabricCode = match k with | .read => 0x41 | .write => 0x42 | .postedWrite => 0x43 := by
  cases k <;> rfl

/-- R71, R72: over an UP link the packet leaves and the staging position empties, in whichever order. -/
theorem grantTo_of_up {s : State} (hup : s.fabric = .up) (w : Requester) (q : Staged) (i : SlotIndex) :
    grantTo w q i s = leaveStaging w { s with
      fu := { s.fu with
        pointer := w
        ort := s.fu.ort.set i.val (grantedSlot q s.fu.ort[i].incarnation s.tb.upstreamTimeout) i.isLt }
      sent := s.sent ++ [.fabric (requestPacket s.ownNode q (upstreamTag i (s.fu.ort[i].incarnation + 1)))] } := by
  cases w with
  | cp p => exact if_pos hup
  | rp => exact if_pos hup

theorem exec_grant (s : State) : exec .grant s = execGrant s := rfl

theorem exec_grant_of_winner {s : State} {w : Requester} {q : Staged} {i : SlotIndex} (hup : s.fabric = .up)
    (hwinner : s.winner = some w) (hfree : s.lowestFree = some i) (hstaged : s.stagedAt w = some q) :
    exec .grant s = .next (grantTo w q i s) := by
  simp [exec_grant, execGrant, hup, hwinner, hfree, hstaged]

/-- Settles O12: the winner and the slot by the orders they are searched in, then what `grantTo` leaves. -/
theorem grantInRotation : Obligations.GrantInRotation := by
  refine fun s => ⟨fun w q i hup hready hfirst hfree hlow => ?_, fun hnone => ?_⟩
  · have hslot := lowestFree_eq_some hfree hlow
    have hwinner := winner_eq_some hready hfirst (by rw [hslot]; rfl)
    rw [exec_grant_of_winner hup hwinner hslot hready.1, grantTo_of_up hup, leaveStaging_eq, requestPacket,
      upstreamTag_eq, fabricCode_eq]
    rfl
  · rw [exec_grant, execGrant]
    obtain hnobody | hfull | hdown := hnone
    · simp [winner_eq_none hnobody]
    · simp [lowestFree_eq_none_iff.2 hfull]
    · rw [if_pos hdown]

end Sys2Proof.Machine
end

section
/-! PROOFS. SET TIMING: its parameters (R187, R188), idleness, and its write (R84). -/

namespace Sys2Proof.Machine

/-! ### Parameters -/

theorem periodOf_eq_some_iff {b : Byte} {x : TickPeriod} :
    periodOf b = some x ↔
      b.toNat ≤ 3 ∧ x = if b = 0 then .us1 else if b = 1 then .us8 else if b = 2 then .us64 else .us512 := by
  unfold periodOf
  split_ifs with h0 h1 h2 h3
  · simp [h0, eq_comm]
  · simp [h1, eq_comm]
  · simp [h2, eq_comm]
  · simp [h3, eq_comm]
  · simp only [false_iff, not_and]
    bv_omega

/-- R84: a timeout of 1 to 255 is one that is not 0. -/
theorem rangeOf_timeout_iff {b x : Byte} : rangeOf 1 255 b = some x ↔ b ≠ 0 ∧ x = b := by
  rw [rangeOf_eq_some_iff]
  refine and_congr_left' ?_
  bv_omega

/-- R84 step 1: SET TIMING's three parameters are read one by one. -/
theorem setTimingOf_eq_some_iff {period miss upstream m u : Byte} {p : TickPeriod} :
    setTimingOf [period, miss, upstream] = some (p, m, u) ↔
      periodOf period = some p ∧ rangeOf 1 255 miss = some m ∧ rangeOf 1 255 upstream = some u := by
  simp only [setTimingOf]
  split
  · simp_all
  · next hnone =>
    simp only [reduceCtorEq, false_iff]
    rintro ⟨hp, hm, hu⟩
    exact hnone _ _ _ hp hm hu

theorem setTimingOf_of_bad {period miss upstream : Byte} (hbad : 3 < period.toNat ∨ miss = 0 ∨ upstream = 0) :
    setTimingOf [period, miss, upstream] = none := by
  rw [Option.eq_none_iff_forall_ne_some]
  rintro ⟨p, m, u⟩ hsome
  simp only [setTimingOf_eq_some_iff, periodOf_eq_some_iff, rangeOf_timeout_iff] at hsome
  obtain ⟨⟨hperiod, -⟩, ⟨hmiss, -⟩, hupstream, -⟩ := hsome
  obtain hlarge | hzero | hzero := hbad
  · omega
  · exact hmiss hzero
  · exact hupstream hzero

/-! ### Idleness and the write -/

/-- R84: the part is idle in CLOSED or QUIESCED and empty. -/
theorem idle_iff (s : State) :
    s.idle = true ↔ (s.mc.admission = .closed ∨ s.mc.admission = .quiesced) ∧ s.Empty := by
  have hidle : s.idle = ((s.mc.admission == .closed || s.mc.admission == .quiesced) && s.drained) := by
    simp only [State.idle, State.drained, Bool.and_assoc]
  rw [hidle, Bool.and_eq_true, drained_iff, Bool.or_eq_true, beq_iff_eq, beq_iff_eq]

theorem exec_setTiming (c : Command) (s : State) :
    exec (.setTiming c) s = .next (takeCommand 0x18 false c (setTimingBody c) s) := rfl

theorem setTimingBody_of_none {c : Command} {s : State} (h : setTimingOf c.params = none) :
    setTimingBody c s = reject .badParam s := by
  rw [setTimingBody, h]

section
variable {c : Command} {s : State} {p : TickPeriod} {m u : Byte}

theorem setTimingBody_of_busy (h : setTimingOf c.params = some (p, m, u)) (hbusy : ¬ s.idle = true) :
    setTimingBody c s = reject .wrongState s := by
  simp only [setTimingBody, h, if_neg hbusy]

theorem setTimingBody_of_idle (h : setTimingOf c.params = some (p, m, u)) (hidle : s.idle = true) :
    setTimingBody c s =
      accept [] { s with tb := { period := p, missTimeout := m, upstreamTimeout := u, prescale := 0 } } := by
  simp only [setTimingBody, h, if_pos hidle]

end

/-- Settles O33: the parameters read one by one, then idleness. -/
theorem setTimingWrites : Obligations.SetTimingWrites := by
  intro c period miss upstream s h hp
  simp only [exec_setTiming]
  refine ⟨fun hbad => ?_, fun hperiod hmiss hupstream => ?_⟩
  · rw [takeCommand_reject h false (setTimingBody_of_none (hp ▸ setTimingOf_of_bad hbad))]
  · have hsome := setTimingOf_eq_some_iff.2 ⟨periodOf_eq_some_iff.2 ⟨hperiod, rfl⟩,
      rangeOf_timeout_iff.2 ⟨hmiss, rfl⟩, rangeOf_timeout_iff.2 ⟨hupstream, rfl⟩⟩
    rw [← hp] at hsome
    refine ⟨fun hbusy => ?_, fun hidle => ?_⟩
    · rw [takeCommand_reject h false (setTimingBody_of_busy hsome (mt (idle_iff s).1 hbusy))]
    · rw [takeCommand_now h false (setTimingBody_of_idle hsome ((idle_iff s).2 hidle)) (up_of_fromOwner h)]

end Sys2Proof.Machine
end

section
/-! PROOFS. FENCE: what a capture leaves (R119, R120) and the commands whose reply is deferred (R121, R134). -/

namespace Sys2Proof.Machine

/-! ### Deferred replies -/

/-- R134: a command of the owner whose step 5 leaves `u` and defers its reply. -/
theorem takeCommand_deferred {code : Byte} {c : Command} {s u : State} {body : State → State × Reply} {name : Answer}
    (h : FromOwner code c s) (fromAny : Bool) (hbody : body s = (u, .deferred name)) :
    takeCommand code fromAny c body s = u.deferred code c name := by
  rw [takeCommand, envelope_of_fromOwner h, hbody]
  exact if_pos (.inl (owner_of_fromOwner h))

/-! ### The capture -/

theorem occupiedSlots_eq_nil_iff {s : State} :
    s.occupiedSlots = [] ↔ ∀ i : SlotIndex, s.fu.ort[i].occupied = false := by
  simp [State.occupiedSlots]

section
variable {cmd : FenceCommand} {c : Command} {count : Nat} {s : State}

/-- R119 step 3: with an empty ORT the capture answers at once. -/
theorem capture_of_empty (hempty : ∀ i : SlotIndex, s.fu.ort[i].occupied = false) :
    capture cmd c count s = accept [numByte count] s := by
  rw [capture, if_pos (occupiedSlots_eq_nil_iff.2 hempty)]

/-- R119 step 4: with a slot occupied the capture leaves a fence record and defers the reply. -/
theorem capture_of_occupied (hoccupied : ∃ i : SlotIndex, s.fu.ort[i].occupied = true) :
    capture cmd c count s = (s.fenced cmd c count, .deferred (.pendingFence s.fu.nextFence)) := by
  have hsome : s.occupiedSlots ≠ [] := by
    simpa [occupiedSlots_eq_nil_iff] using hoccupied
  rw [capture, if_neg hsome, State.fenced]

end

/-! ### FENCE -/

theorem exec_fence (c : Command) (s : State) : exec (.fence c) s = .next (takeCommand 0x34 false c (fenceBody c) s) :=
  rfl

section
variable {c : Command} {s : State}

/-- R121, R125: the room check comes first. -/
theorem fenceBody_of_full (hp : c.params = []) (hfull : 4 ≤ s.fu.fences.length) : fenceBody c s = reject .busy s := by
  rw [fenceBody, Config.fenceCapacity, if_pos hp, if_pos hfull]

theorem fenceBody_of_room (hp : c.params = []) (hroom : s.fu.fences.length < 4) :
    fenceBody c s = capture .fence c 0 s := by
  rw [fenceBody, Config.fenceCapacity, if_pos hp, if_neg hroom.not_ge]

end

/-- Settles O44: the room check, then the capture by whether the ORT is empty. -/
theorem fenceCaptures : Obligations.FenceCaptures := by
  intro c s h hp
  simp only [exec_fence]
  refine ⟨fun hfull => ?_, fun hroom hempty => ?_, fun hroom hoccupied => ?_⟩
  · rw [takeCommand_reject h false (fenceBody_of_full hp hfull)]
  · have hbody := (fenceBody_of_room hp hroom).trans (capture_of_empty hempty)
    rw [takeCommand_now h false hbody (up_of_fromOwner h)]
    rfl
  · have hbody := (fenceBody_of_room hp hroom).trans (capture_of_occupied hoccupied)
    rw [takeCommand_deferred h false hbody]

end Sys2Proof.Machine
end

section
/-! PROOFS. COMMAND packets from any node: what ends a command in steps 1 to 3, and how one that reaches step 5 is
answered (R131 to R134, R140, R147). -/

namespace Sys2Proof.Machine

/-! ### What steps 1 to 3 answer -/

section
variable {code source sequence : Byte} {payload : List Byte} {check : Half} {c : Command} {s : State}

/-- R131 step 1, R181: a failed payload check, which an empty payload cannot pass. -/
theorem envelope_of_badCheck (hup : s.fabric = .up) (hbad : payload = [] ∨ check ≠ checkWord payload)
    (fromAny : Bool) :
    envelope source sequence payload check fromAny s = some (logFault (bareFault .checkError .fabric) s) := by
  rw [envelope, if_neg (by simp [hup]), if_pos hbad, checkErrorFault]

/-- R147: a good COMMAND from the part's own node. -/
theorem envelope_of_ownNode (hup : s.fabric = .up) (hcheck : c.check = checkWord (code :: c.params))
    (hown : c.source = s.ownNode) (fromAny : Bool) :
    envelope c.source c.sequence (code :: c.params) c.check fromAny s =
      some (logFault { bareFault .unsolicited .fabric with code := some (c.source.setWidth 16) } s) := by
  rw [envelope, if_neg (by simp [hup]), if_neg (by simp [hcheck]), if_pos hown, unsolicitedFault]

theorem cacheHit_of_repeat {e : CacheEntry} (he : s.mc.cache = some e) (hsource : e.source = c.source)
    (hsequence : e.sequence = c.sequence) : s.cacheHit c.source c.sequence = some e := by
  simp [State.cacheHit, he, hsource, hsequence]

/-- R133: under the cached node and sequence the cache answers. -/
theorem envelope_of_repeat {e : CacheEntry} (h : Intact code c s) (he : s.mc.cache = some e)
    (hsource : e.source = c.source) (hsequence : e.sequence = c.sequence) (fromAny : Bool) :
    envelope c.source c.sequence (code :: c.params) c.check fromAny s = some (answerFromCache e s) := by
  obtain ⟨hup, hcheck, hnode⟩ := h
  rw [envelope, if_neg (by simp [hup]), if_neg (by simp [hcheck]), if_neg hnode,
    cacheHit_of_repeat he hsource hsequence]

/-- R140: a command that only the owner may send, from another node. -/
theorem envelope_of_notOwner (h : Intact code c s) (hfresh : Fresh c s) (howner : s.mc.owner ≠ some c.source) :
    envelope c.source c.sequence (code :: c.params) c.check false s = some (s.replied code c .notOwner []) := by
  obtain ⟨hup, hcheck, hnode⟩ := h
  rw [envelope, if_neg (by simp [hup]), if_neg (by simp [hcheck]), if_neg hnode, cacheHit_of_fresh hfresh]
  exact (if_pos ⟨rfl, howner⟩).trans (congrArg some (sendReply_of_up hup ..))

/-- R140: steps 1 to 3 let CLAIM and STATUS through from any node. -/
theorem envelope_of_fromAny (h : Intact code c s) (hfresh : Fresh c s) :
    envelope c.source c.sequence (code :: c.params) c.check true s = none := by
  obtain ⟨hup, hcheck, hnode⟩ := h
  exact (envelope_none_iff ..).2 ⟨hup, by simp, hcheck, hnode, cacheHit_of_fresh hfresh, .inl rfl⟩

/-- R133: over an UP link the cached answer leaves, PENDING where the reply is still deferred. -/
theorem answerFromCache_of_up {e : CacheEntry} (hup : s.fabric = .up) (hsource : e.source = c.source)
    (hsequence : e.sequence = c.sequence) :
    answerFromCache e s = match e.answer with
      | .stored status results => s.replied e.code c status results
      | .pendingFence _ => s.replied e.code c .pending []
      | .pendingQuiesce => s.replied e.code c .pending [] := by
  rw [answerFromCache, hsource, hsequence]
  cases e.answer with
  | stored status results => exact sendReply_of_up hup ..
  | pendingFence id => exact sendReply_of_up hup ..
  | pendingQuiesce => exact sendReply_of_up hup ..

/-! ### How step 5 is answered -/

/-- R134: an answer given at once is cached where the sender is the owner, before the command or after it. -/
theorem finish_now_eq_ite {before u : State} (hup : u.fabric = .up) (status : ReplyStatus) (results : List Byte) :
    finish c.source c.sequence code before (u, .now status results) =
      if before.mc.owner = some c.source ∨ u.mc.owner = some c.source then u.answered code c status results
      else u.replied code c status results := by
  simp only [finish, enterCache, sendReply_of_up hup]
  rfl

variable {body : State → State × Reply}

/-- R131: a command that steps 1 to 3 end. -/
theorem takeCommand_of_envelope {fromAny : Bool} {t : State}
    (h : envelope c.source c.sequence (code :: c.params) c.check fromAny s = some t) :
    takeCommand code fromAny c body s = t := by
  rw [takeCommand, h]

/-- R134: CLAIM or STATUS answered at once, its sender the owner before it or by it. -/
theorem takeCommand_fromAny_answered {u : State} {status : ReplyStatus} {results : List Byte} (h : Intact code c s)
    (hfresh : Fresh c s) (hbody : body s = (u, .now status results)) (hup : u.fabric = .up)
    (howner : s.mc.owner = some c.source ∨ u.mc.owner = some c.source) :
    takeCommand code true c body s = u.answered code c status results := by
  rw [takeCommand, envelope_of_fromAny h hfresh, hbody]
  exact (finish_now_eq_ite hup ..).trans (if_pos howner)

/-- R134: CLAIM or STATUS of a node that is not the owner, answered with every block as it was. -/
theorem takeCommand_fromAny_replied {status : ReplyStatus} {results : List Byte} (h : Intact code c s)
    (hfresh : Fresh c s) (hbody : body s = (s, .now status results)) (howner : s.mc.owner ≠ some c.source) :
    takeCommand code true c body s = s.replied code c status results := by
  rw [takeCommand, envelope_of_fromAny h hfresh, hbody]
  exact (finish_now_eq_ite h.1 ..).trans (if_neg (not_or.2 ⟨howner, howner⟩))

end

end Sys2Proof.Machine
end

section
/-! PROOFS. STATUS, unknown command codes and CLAIM (R138, R141, R142, R193). -/

namespace Sys2Proof.Machine

/-! ### STATUS -/

theorem exec_status (c : Command) (s : State) :
    exec (.status c) s = .next (takeCommand 0x03 true c (statusBody c) s) := rfl

theorem statusBody_of_noParams {c : Command} (hp : c.params = []) (s : State) :
    statusBody c s = accept (statusResults s) s := if_pos hp

/-- R193: five flags as the sum of their bits, the last one set. -/
theorem flagBits_eq_sum (b0 b1 b2 b3 : Bool) :
    flagBit 0 b0 ||| flagBit 1 b1 ||| flagBit 2 b2 ||| flagBit 3 b3 ||| flagBit 4 true =
      (if b0 = true then 1 else 0) + (if b1 = true then 2 else 0) + (if b2 = true then 4 else 0) +
        (if b3 = true then 8 else 0) + 16 := by
  revert b0 b1 b2 b3
  decide

/-- R193: the link states byte, read where the fabric link is UP. -/
theorem linkByte_of_up {s : State} (hup : s.fabric = .up) :
    s.linkByte = (if s.ports[0].link = .up then 1 else 0) + (if s.ports[1].link = .up then 2 else 0) +
      (if s.ports[2].link = .up then 4 else 0) + (if s.ports[3].link = .up then 8 else 0) + 16 := by
  have hfabric : (s.fabric == .up) = true := beq_iff_eq.2 hup
  rw [State.linkByte, hfabric, flagBits_eq_sum]
  simp only [beq_iff_eq]

/-- R66: the ORT occupancy, its slots listed. -/
theorem ortOccupancy_eq_length (s : State) : s.ortOccupancy = s.occupiedSlots.length :=
  List.countP_eq_length_filter

/-- Settles O28: the results byte by byte, then the reply by whether the sender is the owner. -/
theorem statusReports : Obligations.StatusReports := by
  intro c s h hfresh hp links results
  have hresults : statusResults s = results := by
    rw [statusResults, linkByte_of_up h.1, ortOccupancy_eq_length]
    cases howner : s.mc.owner <;> simp only [results, howner] <;> rfl
  have hbody : statusBody c s = (s, .now .ok results) := by rw [statusBody_of_noParams hp, hresults, accept]
  rw [exec_status]
  refine ⟨fun howner => ?_, fun howner => ?_⟩
  · rw [takeCommand_fromAny_answered h hfresh hbody h.1 (.inl howner)]
  · rw [takeCommand_fromAny_replied h hfresh hbody howner]

/-! ### UNKNOWN_COMMAND -/

/-- R141: with a payload, an unknown code is taken like a command of the catalogue whose step 5 rejects it. -/
theorem exec_unknownCommand (code : Byte) (c : Command) (s : State) :
    exec (.unknownCommand c.source c.sequence (code :: c.params) c.check) s =
      .next (takeCommand code false c (reject .unknown) s) := rfl

/-- R181: a COMMAND without a payload is dropped as one whose check fails. -/
theorem exec_unknownCommand_nil {s : State} (hup : s.fabric = .up) (source sequence : Byte) (check : Half) :
    exec (.unknownCommand source sequence [] check) s = .next (logFault (bareFault .checkError .fabric) s) := by
  change execUnknownCommand source sequence [] check s = _
  rw [execUnknownCommand, envelope_of_badCheck hup (.inl rfl)]

/-- Settles O25: the steps of R131 in their order, and the repeat under the cache entry that the first answer made. -/
theorem unknownCode : Obligations.UnknownCode := by
  intro code c s
  simp only [exec_unknownCommand]
  refine ⟨fun h => ?unknown, fun h => ?again, fun h hfresh howner => ?notOwner, fun hup hbad => ?badCheck,
    fun hup => exec_unknownCommand_nil hup .., fun hup hcheck hown => ?ownNode,
    fun e h he hsource hsequence => ?cached⟩
  case unknown => rw [takeCommand_reject h false rfl]
  case again =>
    have hintact : Intact code c (s.answered code c .unknown []) := h.1
    rw [takeCommand_of_envelope (envelope_of_repeat hintact rfl rfl rfl false),
      answerFromCache_of_up hintact.1 rfl rfl]
  case notOwner => rw [takeCommand_of_envelope (envelope_of_notOwner h hfresh howner)]
  case badCheck => rw [takeCommand_of_envelope (envelope_of_badCheck hup (.inr hbad) false)]
  case ownNode => rw [takeCommand_of_envelope (envelope_of_ownNode hup hcheck hown false)]
  case cached =>
    rw [takeCommand_of_envelope (envelope_of_repeat h he hsource hsequence false)]
    exact congrArg Host.Outcome.next (answerFromCache_of_up h.1 hsource hsequence)

/-! ### CLAIM -/

theorem exec_claim (c : Command) (s : State) :
    exec (.claim c) s = .next (takeCommand 0x01 true c (claimBody c) s) := rfl

section
variable {c : Command} {s : State}

theorem claimBody_of_none (hp : c.params = []) (hnone : s.mc.owner = none) :
    claimBody c s = accept [s.mc.noticeSeq] { s with mc := { s.mc with owner := some c.source } } := by
  rw [claimBody, withoutParams, if_pos hp, claimOwner, hnone]

theorem claimBody_of_owner (hp : c.params = []) (howner : s.mc.owner = some c.source) :
    claimBody c s = accept [s.mc.noticeSeq] s := by
  rw [claimBody, withoutParams, if_pos hp, claimOwner, howner]
  exact if_pos rfl

theorem claimBody_of_other {o : Byte} (hp : c.params = []) (howner : s.mc.owner = some o) (hne : o ≠ c.source) :
    claimBody c s = reject .notOwner s := by
  rw [claimBody, withoutParams, if_pos hp, claimOwner, howner]
  exact if_neg hne

end

/-- Settles O26: the three rows of R138, and the cache entry by who is the owner before the command and after it. -/
theorem claimDecides : Obligations.ClaimDecides := by
  intro c s h hfresh hp
  simp only [exec_claim]
  refine ⟨fun hnone => ?_, fun howner => ?_, fun o howner hne => ?_⟩
  · rw [takeCommand_fromAny_answered h hfresh (claimBody_of_none hp hnone) h.1 (.inr rfl)]
  · rw [takeCommand_fromAny_answered h hfresh (claimBody_of_owner hp howner) h.1 (.inl howner)]
  · have hstranger : s.mc.owner ≠ some c.source := by simp [howner, hne]
    rw [takeCommand_fromAny_replied h hfresh (claimBody_of_other hp howner hne) hstranger]

end Sys2Proof.Machine
end

section
/-! PROOFS. OPEN, CLOSE and RELEASE (R153, R154, R159), and what a deferred reply leaves (R135). -/

namespace Sys2Proof.Machine

/-! ### Deferred replies that are sent -/

/-- R135: a cache entry after the deferred reply that `name` names: stored where the entry is PENDING and names it. -/
def CacheEntry.settled (name : Answer) (status : ReplyStatus) (results : List Byte) (e : CacheEntry) : CacheEntry :=
  if e.answer = name then { e with answer := .stored status results } else e

theorem setCache_eq_self {entry : Option CacheEntry} {s : State} (h : s.mc.cache = entry) : s.setCache entry = s := by
  rw [State.setCache, ← h]

/-- R130, R135: over an UP link a deferred reply leaves and settles the cache entry, and nothing else changes. -/
theorem deferredReply_of_up {s : State} (hup : s.fabric = .up) (name : Answer) (node sequence code : Byte)
    (status : ReplyStatus) (results : List Byte) :
    deferredReply name node sequence code status results s =
      ({ s with sent := s.sent ++ [s.replyTo node sequence code status results] } : State).setCache
        (s.mc.cache.map (CacheEntry.settled name status results)) := by
  rw [deferredReply, sendReply_of_up hup]
  cases hcache : s.mc.cache with
  | none => exact (setCache_eq_self (by exact hcache)).symm
  | some e =>
    by_cases hnamed : e.answer = name
    · simp [hnamed, CacheEntry.settled]
    · simp only [Option.map_some, CacheEntry.settled, if_neg hnamed]
      exact (setCache_eq_self (by exact hcache)).symm

/-- R154, R159: the pending QUIESCE answered ABORTED and removed, with admission `a` behind it. -/
def State.aborted (q : PendingQuiesce) (a : Admission) (s : State) : State :=
  { s with mc := { s.mc with admission := a, quiesce := none }
           sent := s.sent ++ [s.replyTo q.node q.sequence 0x12 .aborted []] }

/-- R135, R154, R159: the abort, and what it writes into the replay cache. -/
theorem setAdmission_answerQuiesce_aborted {s : State} {q : PendingQuiesce} (hup : s.fabric = .up)
    (hq : s.mc.quiesce = some q) (a : Admission) :
    (answerQuiesce .aborted s).setAdmission a =
      (s.aborted q a).setCache (s.mc.cache.map (CacheEntry.settled .pendingQuiesce .aborted [])) := by
  rw [answerQuiesce, hq]
  exact congrArg (State.setAdmission a) (deferredReply_of_up (by exact hup) ..)

/-- R134: the one cache entry is overwritten by the next command's. -/
theorem answered_setCache (code : Byte) (c : Command) (status : ReplyStatus) (results : List Byte)
    (entry : Option CacheEntry) (s : State) :
    (s.setCache entry).answered code c status results = s.answered code c status results := rfl

/-- R154, R159: a command of the owner whose step 5 aborts the pending QUIESCE and moves admission. The entry that the
abort settles does not outlast the command's own. -/
theorem takeCommand_aborting {code : Byte} {c : Command} {s : State} {body : State → State × Reply}
    {q : PendingQuiesce} {a : Admission} (h : FromOwner code c s) (fromAny : Bool) (hq : s.mc.quiesce = some q)
    (hbody : body s = accept [] ((answerQuiesce .aborted s).setAdmission a)) :
    takeCommand code fromAny c body s = (s.aborted q a).answered code c .ok [] := by
  have hup := up_of_fromOwner h
  rw [setAdmission_answerQuiesce_aborted hup hq] at hbody
  rw [takeCommand_now h fromAny hbody hup, answered_setCache]

/-! ### OPEN, CLOSE and RELEASE -/

theorem exec_openCmd (c : Command) (s : State) :
    exec (.openCmd c) s = .next (takeCommand 0x10 false c (openBody c) s) := rfl

theorem exec_close (c : Command) (s : State) :
    exec (.close c) s = .next (takeCommand 0x11 false c (closeBody c) s) := rfl

theorem exec_release (c : Command) (s : State) :
    exec (.release c) s = .next (takeCommand 0x13 false c (releaseBody c) s) := rfl

section
variable {c : Command} {s : State}

theorem openBody_of_closed (hp : c.params = []) (hclosed : s.mc.admission = .closed) :
    openBody c s = accept [] (s.setAdmission .opened) := by
  rw [openBody, withoutParams, if_pos hp, hclosed]

theorem openBody_of_ne_closed (hp : c.params = []) (hne : s.mc.admission ≠ .closed) :
    openBody c s = reject .wrongState s := by
  rw [openBody, withoutParams, if_pos hp]
  split
  · contradiction
  all_goals rfl

theorem closeBody_of_draining (hp : c.params = []) (hdraining : s.mc.admission = .draining) :
    closeBody c s = accept [] ((answerQuiesce .aborted s).setAdmission .closed) := by
  rw [closeBody, withoutParams, if_pos hp, hdraining]

theorem closeBody_of_ne_draining (hp : c.params = []) (hne : s.mc.admission ≠ .draining) :
    closeBody c s = accept [] (s.setAdmission .closed) := by
  rw [closeBody, withoutParams, if_pos hp]
  split
  · contradiction
  all_goals rfl

theorem releaseBody_of_draining (hp : c.params = []) (hdraining : s.mc.admission = .draining) :
    releaseBody c s = accept [] ((answerQuiesce .aborted s).setAdmission .opened) := by
  rw [releaseBody, withoutParams, if_pos hp, hdraining]

theorem releaseBody_of_quiesced (hp : c.params = []) (hquiesced : s.mc.admission = .quiesced) :
    releaseBody c s = accept [] (s.setAdmission .opened) := by
  rw [releaseBody, withoutParams, if_pos hp, hquiesced]

theorem releaseBody_of_opened_or_closed (hp : c.params = [])
    (hstate : s.mc.admission = .opened ∨ s.mc.admission = .closed) : releaseBody c s = reject .wrongState s := by
  rw [releaseBody, withoutParams, if_pos hp]
  obtain hopened | hclosed := hstate
  · rw [hopened]
  · rw [hclosed]

end

/-- Settles O29: each command by the admission state it meets; from DRAINING by the abort of the pending QUIESCE. -/
theorem openCloseRelease : Obligations.OpenCloseRelease := by
  unfold Obligations.OpenCloseRelease
  simp only [exec_openCmd, exec_close, exec_release]
  refine ⟨fun c s h hp => ⟨fun hclosed => ?opens, fun hne => ?openRejected⟩, fun c s hp =>
    ⟨fun h hne => ?closes, fun h hquiesced => ?releases, fun h hstate => ?releaseRejected,
      fun q hdraining hq => ⟨fun h => ?closeAborts, fun h => ?releaseAborts⟩⟩⟩
  case opens =>
    rw [takeCommand_now h false (openBody_of_closed hp hclosed) (up_of_fromOwner h), State.setAdmission]
  case openRejected => rw [takeCommand_reject h false (openBody_of_ne_closed hp hne)]
  case closes =>
    rw [takeCommand_now h false (closeBody_of_ne_draining hp hne) (up_of_fromOwner h), State.setAdmission]
  case releases =>
    rw [takeCommand_now h false (releaseBody_of_quiesced hp hquiesced) (up_of_fromOwner h), State.setAdmission]
  case releaseRejected => rw [takeCommand_reject h false (releaseBody_of_opened_or_closed hp hstate)]
  case closeAborts => rw [takeCommand_aborting h false hq (closeBody_of_draining hp hdraining), State.aborted]
  case releaseAborts => rw [takeCommand_aborting h false hq (releaseBody_of_draining hp hdraining), State.aborted]

end Sys2Proof.Machine
end

section
/-! PROOFS. LOG READ: the fault record it returns (R192), and what it removes and answers (R177). -/

namespace Sys2Proof.Machine

/-! ### The fault record -/

/-- R192: six flags as the sum of their bits. -/
theorem presenceBits_eq_sum (b5 b4 b3 b2 b1 b0 : Bool) :
    flagBit 5 b5 ||| flagBit 4 b4 ||| flagBit 3 b3 ||| flagBit 2 b2 ||| flagBit 1 b1 ||| flagBit 0 b0 =
      (if b5 = true then 32 else 0) + (if b4 = true then 16 else 0) + (if b3 = true then 8 else 0) +
        (if b2 = true then 4 else 0) + (if b1 = true then 2 else 0) + (if b0 = true then 1 else 0) := by
  revert b5 b4 b3 b2 b1 b0
  decide

/-- R192: a flag that says a field is present, read off the field. -/
theorem ite_isSome_eq_ite_none {α : Type} (field : Option α) [Decidable (field = none)] (bit : Byte) :
    (if field.isSome = true then bit else 0) = if field = none then 0 else bit := by
  cases field <;> simp

theorem FaultRec.presence_eq_sum (r : FaultRec) : r.presence =
    (if r.stream = none then 0 else 32) + (if r.domain = none then 0 else 16) + (if r.address = none then 0 else 8) +
      (if r.ticket = none then 0 else 4) + (if r.tag = none then 0 else 2) + (if r.code = none then 0 else 1) := by
  simp only [FaultRec.presence, presenceBits_eq_sum, ite_isSome_eq_ite_none]

/-! ### What LOG READ removes and returns -/

theorem removeOldest_eq (n : Nat) (s : State) : removeOldest n s =
    { s with fl := { s.fl with
      records := s.fl.records.drop n
      overflow := if s.fl.records.drop n = [] then 0 else s.fl.overflow } } := by
  simp only [removeOldest, List.isEmpty_iff]

section
variable {s : State}

/-- R177: from an empty log nothing is removed, and its overflow count of 0 stays. -/
theorem removeOldest_of_empty (hempty : s.fl.records = []) (hoverflow : s.fl.overflow = 0) (n : Nat) :
    removeOldest n s = s := by
  have hfl : s.fl = { s.fl with records := [], overflow := 0 } := by rw [← hempty, ← hoverflow]
  rw [removeOldest_eq, hempty, List.drop_nil, if_pos rfl, ← hfl]

/-- R177, R187: an empty log returns no record, an overflow count of 0 and a remainder of 0. -/
theorem logResults_of_empty (hempty : s.fl.records = []) (hoverflow : s.fl.overflow = 0) (n : Nat) :
    logResults n s = [0, 0, 0, 0] := by
  rw [logResults, hempty, hoverflow, List.take_nil, List.drop_nil]
  rfl

end

/-! ### LOG READ -/

theorem exec_logRead (c : Command) (s : State) :
    exec (.logRead c) s = .next (takeCommand 0x50 false c (logReadBody c) s) := rfl

section
variable {c : Command} {n : Byte} {s : State}

theorem logReadBody_of_outside (hp : c.params = [n]) (hout : n = 0 ∨ 4 < n.toNat) :
    logReadBody c s = reject .badParam s := by
  have hbad : ¬ (1 ≤ n.toNat ∧ n.toNat ≤ 4) := by bv_omega
  rw [logReadBody, hp]
  exact if_neg hbad

theorem logReadBody_of_count (hp : c.params = [n]) (hne : n ≠ 0) (hle : n.toNat ≤ 4) :
    logReadBody c s = accept (logResults n.toNat s) (removeOldest n.toNat s) := by
  have hgood : 1 ≤ n.toNat ∧ n.toNat ≤ 4 := by bv_omega
  rw [logReadBody, hp]
  exact if_pos hgood

/-- R177: a LOG READ of the owner with a count of 1 to 4. -/
theorem exec_logRead_of_count (h : FromOwner 0x50 c s) (hp : c.params = [n]) (hne : n ≠ 0) (hle : n.toNat ≤ 4) :
    exec (.logRead c) s =
      .next ((removeOldest n.toNat s).answered 0x50 c .ok (logResults n.toNat s)) := by
  rw [exec_logRead, takeCommand_now h false (logReadBody_of_count hp hne hle) (up_of_fromOwner h)]

end

/-- Settles O47: the count inside 1 to 4 or outside; the records byte by byte; an empty log has no overflow to report. -/
theorem logReadRemoves : Obligations.LogReadRemoves := by
  intro c n s h hp taken left presence laidOut
  refine ⟨fun hout => ?outside, fun hne hle => ?removes, fun hne hle hempty hlaw => ?empty⟩
  case outside => rw [exec_logRead, takeCommand_reject h false (logReadBody_of_outside hp hout)]
  case removes =>
    have hbytes : FaultRec.bytes = laidOut := by
      funext r
      simp only [FaultRec.bytes, FaultRec.presence_eq_sum, laidOut, presence]
      congr!
      · cases r.stream <;> rfl
      · cases r.domain <;> rfl
      · cases r.tag <;> rfl
      · cases r.address <;> rfl
      · cases r.ticket <;> rfl
      · cases r.code <;> rfl
    rw [exec_logRead_of_count h hp hne hle, removeOldest_eq, logResults, hbytes]
    rfl
  case empty =>
    have hoverflow : s.fl.overflow = 0 := not_not.1 fun hcounted => hlaw.2 hcounted hempty
    rw [exec_logRead_of_count h hp hne hle, removeOldest_of_empty hempty hoverflow,
      logResults_of_empty hempty hoverflow]

end Sys2Proof.Machine
end


section
/-! PROOFS. What a command can do, said once: every command but a link event and the tick itself is a run of acts, each a
small change of the state with the condition under which the part makes it. The invariants are proved over the acts. -/

namespace Sys2Proof.Machine

/-! ### Acts -/

/-- R183: the kinds of the packets sent to a client. -/
def clientKinds : List Byte := [0x21, 0x22, 0x2F, 0x30]

/-- R184: the kinds of the packets sent over the fabric link. -/
def fabricKinds : List Byte := [0x41, 0x42, 0x43, 0x61, 0x62]

/-- R135: the state whose cache entry has received the deferred reply that `name` names. -/
def State.cacheSettled (name : Answer) (status : ReplyStatus) (results : List Byte) (s : State) : State :=
  s.setCache (s.mc.cache.map (CacheEntry.settled name status results))

/-- R154, R157: the pending QUIESCE removed, its reply in the cache. -/
def State.unquiesced (status : ReplyStatus) (s : State) : State :=
  match s.mc.quiesce with
  | none => s
  | some _ => ({ s with mc := { s.mc with quiesce := none } } : State).cacheSettled .pendingQuiesce status []

/-- R122: a fence record out of the Fence List, its reply in the cache. -/
def State.unfenced (f : FenceRec) (s : State) : State :=
  ({ s with fu := { s.fu with fences := s.fu.fences.eraseP FenceRec.due } } : State).cacheSettled
    (.pendingFence f.id) .ok [numByte f.count]

/-- R92, R95: a record created for a request, which it holds; the notice is not sent yet. -/
def State.recorded (r : Request) (d : Domain) (s : State) : State :=
  { s with mu := { s.mu with
    held := s.mu.held ++ [{ req := r, domain := d, place := .held s.nextTicket }]
    records := s.mu.records ++ [newRecord r d s]
    ticket := s.nextTicket + 1 } }

/-- R71: the slot written and the pointer moved by a grant of slot `i` to requester `w`. -/
def State.slotGranted (w : Requester) (q : Staged) (i : SlotIndex) (s : State) : State :=
  { s with fu := { s.fu with
    pointer := w
    ort := s.fu.ort.set i.val (grantedSlot q s.fu.ort[i].incarnation s.tb.upstreamTimeout) i.isLt } }

/-- R64: the queue of a port emptied and its credits returned. -/
def State.queueEmptied (p : Port) (s : State) : State :=
  s.updPort p fun c => { c with queue := [], credits := c.credits + c.queue.length }

/-- R53: the head out of its queue and its credit returned; the CREDIT is not sent yet. -/
def State.headTaken (p : Port) (rest : List RxPacket) (s : State) : State :=
  s.updPort p fun c => { c with queue := rest, credits := c.credits + 1 }

/-- The deferred reply that a cache entry names is pending, under the node, sequence and code of the entry (R133). -/
abbrev CacheEntry.Named (e : CacheEntry) (s : State) : Prop :=
  (∀ id, e.answer = .pendingFence id →
    ∃ f ∈ s.fu.fences, f.id = id ∧ f.node = e.source ∧ f.sequence = e.sequence ∧ f.command.code = e.code) ∧
  e.answer ≠ .pendingQuiesce

/-- R58, R59: a request staged at, or handed over from, port `p` is that of a head judged in OPEN, or the one staged
there. -/
abbrev State.Offered (p : Port) (r : Request) (s : State) : Prop :=
  (s.mc.admission = .opened ∧ s.ports[p].queue ≠ [] ∧ r.port = p) ∨ ∃ q, s.ports[p].staging = some q ∧ q.req = r

/-- R105, R107: the request judged for RP is the waiting first of the Replay Queue, or the one staged at RP. -/
abbrev State.OfferedToRp (r : Request) (d : Domain) (s : State) : Prop :=
  (∃ h rest, s.replayQueue = h :: rest ∧ h.req = r ∧ h.domain = d) ∨
    ∃ q, s.mu.rp = some q ∧ q.req = r ∧ q.domain = d

/-- One act of the part, under the condition in which it happens. -/
inductive Act (s : State) : State → Prop
  /-- A packet leaves to a client. -/
  | tell {p : Port} {k : ClientPacket} (hup : s.ports[p].link = .up) (hk : k.kind ∈ clientKinds) :
    Act s (s.emit (.client p k))
  /-- A packet leaves over the fabric link. -/
  | send {k : FabricPacket} (hup : s.fabric = .up) (hsource : k.source = s.ownNode) (hk : k.kind ∈ fabricKinds) :
    Act s (s.emit (.fabric k))
  /-- The notice sequence number moves on. -/
  | number (n : Byte) : Act s { s with mc := { s.mc with noticeSeq := n } }
  /-- The Fault Log takes a fault. -/
  | log (f : FaultRec) : Act s { s with fl := s.fl.after f }
  /-- LOG READ removes the oldest records. -/
  | readLog (n : Nat) : Act s (removeOldest n s)
  /-- A command enters the replay cache. -/
  | enter {e : CacheEntry} (hnode : e.source ≠ s.ownNode) (hnamed : e.Named s) : Act s (s.setCache (some e))
  /-- A frame joins the tail of an Ingress Queue. -/
  | arrive {p : Port} (pkt : RxPacket) (hup : s.ports[p].link = .up) (hcredit : s.ports[p].credits ≠ 0) :
    Act s (s.updPort p fun c => { c with credits := c.credits - 1, queue := c.queue ++ [pkt] })
  /-- A head leaves its queue. -/
  | takeHead {p : Port} {pkt : RxPacket} {rest : List RxPacket} (hqueue : s.ports[p].queue = pkt :: rest) :
    Act s (s.headTaken p rest)
  /-- A RESET empties a queue. -/
  | emptyQueue {p : Port} (hup : s.ports[p].link = .up) : Act s (s.queueEmptied p)
  /-- A staging position empties. -/
  | unstage (p : Port) : Act s (s.setStaging p none)
  /-- A request is staged at a port. -/
  | stage {p : Port} {r : Request} {d : Domain} {node : Byte} {fa : FabricAddr} {i : EntryIndex}
    (hoffered : s.Offered p r) (hbound : s.du.streams[p][r.stream] = some d)
    (hactive : s.du.domains[d].state = .active) (hhit : lookup d r.address r.kind s = .hitAllowed node fa i) :
    Act s ((setHit i s).setStaging p (some (stagedOf r d node fa i)))
  /-- A request of a port joins a live record. -/
  | join {p : Port} {r : Request} {d : Domain} {m : MissRec} (hoffered : s.Offered p r)
    (hrecord : s.recordAt d (pageOf r.address) = some m) (hroom : s.mu.held.length < Config.heldCapacity) :
    Act s (joinMiss r d m.ticket (s.setStaging p none))
  /-- A request of a port makes a live record. -/
  | record {p : Port} {r : Request} {d : Domain} (hoffered : s.Offered p r) (howner : s.mc.owner ≠ none)
    (hnone : s.recordAt d (pageOf r.address) = none) (hrecords : s.mu.records.length < Config.missCapacity)
    (hroom : s.mu.held.length < Config.heldCapacity) : Act s ((s.setStaging p none).recorded r d)
  /-- The arbiter makes a grant. -/
  | grant {w : Requester} {q : Staged} {i : SlotIndex} (hstaged : s.stagedAt w = some q)
    (hfree : s.fu.ort[i].occupied = false) : Act s (leaveStaging w (s.slotGranted w q i))
  /-- A slot is freed. -/
  | free {i : SlotIndex} (hoccupied : s.fu.ort[i].occupied = true) : Act s (freeSlot i s)
  /-- A live record ends, with the requests held under it. -/
  | forget (t : Half) : Act s (freeRecord t s)
  /-- The held list of a ticket moves to the Replay Queue. -/
  | retry (t : Half) : Act s (retryRecord t s)
  /-- The first request of the Replay Queue leaves. -/
  | pop : Act s (popReplay s)
  /-- A request is staged at RP. -/
  | stageRp {r : Request} {d : Domain} {node : Byte} {fa : FabricAddr} {i : EntryIndex} (hoffered : s.OfferedToRp r d)
    (hactive : s.du.domains[d].state = .active) (hhit : lookup d r.address r.kind s = .hitAllowed node fa i) :
    Act s ((setHit i s).setRp (some (stagedOf r d node fa i)))
  /-- A RESET empties the miss unit. -/
  | emptyMissUnit : Act s { s with mu := { s.mu with records := [], held := [], rp := none } }
  /-- The oldest due fence record is replied to. -/
  | completeFence {f : FenceRec} (hdue : s.fu.fences.find? FenceRec.due = some f) : Act s (s.unfenced f)
  /-- A fence record captures the occupied slots. -/
  | capture (cmd : FenceCommand) (c : Command) (count : Nat) (hroom : s.fu.fences.length < Config.fenceCapacity)
    (hoccupied : s.occupiedSlots ≠ []) : Act s (s.fenced cmd c count)
  /-- Admission moves with no QUIESCE pending. -/
  | regulate (a : Admission) (hfrom : s.mc.admission ≠ .draining) (hto : a ≠ .draining)
    (hquiet : a = .quiesced → s.quiet = true) (howner : a = .opened → s.mc.owner.isSome = true) :
    Act s (s.setAdmission a)
  /-- The pending QUIESCE, if any, is answered, and admission moves. -/
  | conclude (status : ReplyStatus) (a : Admission) (hto : a ≠ .draining) (hquiet : a = .quiesced → s.quiet = true)
    (howner : a = .opened → s.mc.owner.isSome = true) : Act s ((s.unquiesced status).setAdmission a)
  /-- A QUIESCE is deferred. -/
  | drain (e : CacheEntry) (howner : s.mc.owner.isSome = true) (hnode : e.source ≠ s.ownNode)
    (hanswer : e.answer = .pendingQuiesce) (hcode : e.code = 0x12) :
    Act s { s with mc := { s.mc with
      admission := .draining, quiesce := some { sequence := e.sequence, node := e.source }, cache := some e } }
  /-- A node becomes the owner. -/
  | claim {node : Byte} (hnone : s.mc.owner = none) (hnode : node ≠ s.ownNode) :
    Act s { s with mc := { s.mc with owner := some node } }
  /-- The owner leaves a part without live records and pending QUIESCE. -/
  | relinquish (hrecords : s.mu.records = []) (hquiesce : s.mc.quiesce = none) :
    Act s { s with mc := { s.mc with admission := .closed, owner := none } }
  /-- The cause record is written. -/
  | cause (c : ResetCause) : Act s { s with mc := { s.mc with cause := c } }
  /-- RESET FULL clears the tables of a part whose traffic has ended. -/
  | clear (hclosed : s.mc.admission = .closed) (hrecords : s.mu.records = []) (hrp : s.mu.rp = none)
    (hstaging : ∀ p : Port, s.ports[p].link = .up → s.ports[p].staging = none)
    (hfree : ∀ i : SlotIndex, s.fu.ort[i].occupied = false) : Act s (clearTables s)
  /-- SET TIMING of an idle part. -/
  | setTiming {p : TickPeriod} {m u : Byte} (hm : 1 ≤ m.toNat) (hu : 1 ≤ u.toNat)
    (hfree : ∀ i : SlotIndex, s.fu.ort[i].occupied = false) :
    Act s { s with tb := { period := p, missTimeout := m, upstreamTimeout := u, prescale := 0 } }
  /-- A stream is bound. -/
  | bind (p : Port) (st : Stream) (b : Option Domain) : Act s (bindSlot p st b s)
  /-- A domain record is written. -/
  | setDomain (d : Domain) {r : DomainRec} (hquota : 1 ≤ r.quota.toNat ∧ r.quota.toNat ≤ 16)
    (hlimit : 1 ≤ r.limit.toNat ∧ r.limit.toNat ≤ 32) : Act s (writeDomain d r s)
  /-- An entry is installed. -/
  | place {i : EntryIndex} {a : InstallArgs} (hfits : Fits s.ownNode a) (hfree : ¬ Clashes a (fun j => j = i) s)
    (hroom : a.pin = true → s.pinnedBut (fun j => j == i) < Config.maxPinned) : Act s (s.placed i a)
  /-- The clock sweep clears hit flags. -/
  | sweep {es : Vector Entry 64} (clock : EntryIndex)
    (hes : ∀ j : EntryIndex, es[j] = s.tu.entries[j] ∨ es[j] = { s.tu.entries[j] with hit := false }) :
    Act s { s with tu := { entries := es, clock := clock } }
  /-- A valid entry is pinned or unpinned. -/
  | pin {i : EntryIndex} {on : Bool} (hvalid : s.tu.entries[i].valid = true)
    (hroom : on = true → s.pinnedCount < Config.maxPinned) : Act s (s.pinnedTo i on)
  /-- Entries are invalidated. -/
  | invalidate (sel : EntryIndex → Entry → Bool) : Act s (invalidate sel s)
  /-- Start-up ends. -/
  | run : Act s { s with phase := .running, tb := { s.tb with prescale := 0 } }

/-- A run of acts. -/
abbrev Acts : State → State → Prop := Relation.ReflTransGen Act

/-- A link event, a power-on or an edge of RSTN: the events that change the state of a link or the strap. -/
inductive LinkAct (s : State) : State → Prop
  | startUp (strap : BitVec 4) (cause : ResetCause) : LinkAct s (startUp strap cause s)
  | assertReset : LinkAct s (assertReset s)
  | portUp {p : Port} (hdown : s.ports[p].link = .down) : LinkAct s (clientUp p s)
  | portDown {p : Port} (hup : s.ports[p].link = .up) : LinkAct s (clientDown p s)
  | fabricUp : LinkAct s { s with fabric := .up }
  | fabricLost (hup : s.fabric = .up) : LinkAct s (fabricLost s)

theorem Acts.one {s t : State} (h : Act s t) : Acts s t := .single h

theorem Acts.foldl {β : Type} {f : State → β → State} (h : ∀ s x, Acts s (f s x)) (l : List β) (s : State) :
    Acts s (l.foldl f s) := by
  induction l generalizing s with
  | nil => exact .refl
  | cons x l ih => exact (h s x).trans (ih _)

/-- A law that every act keeps, every run of acts keeps. -/
theorem Acts.keep {P : State → Prop} (hact : ∀ s t, Act s t → P s → P t) {s t : State} (h : Acts s t) (hs : P s) :
    P t := by
  induction h with
  | refl => exact hs
  | tail _ hlast ih => exact hact _ _ hlast ih

/-! ### Sending and logging -/

section
variable {s : State}

theorem sendClient_acts {p : Port} {k : ClientPacket} (hk : k.kind ∈ clientKinds) : Acts s (sendClient p k s) := by
  unfold sendClient
  split
  case isTrue hup => exact .single (.tell hup hk)
  case isFalse => exact .refl

theorem sendFabric_acts {k : FabricPacket} (hsource : k.source = s.ownNode) (hk : k.kind ∈ fabricKinds) :
    Acts s (sendFabric k s) := by
  unfold sendFabric
  split
  case isTrue hup => exact .single (.send hup hsource hk)
  case isFalse => exact .refl

theorem sendReply_acts (node sequence code : Byte) (status : ReplyStatus) (results : List Byte) :
    Acts s (sendReply node sequence code status results s) :=
  sendFabric_acts rfl (List.mem_of_elem_eq_true rfl)

theorem sendNotice_acts (payload : List Byte) : Acts s (sendNotice payload s) := by
  unfold sendNotice
  split
  · exact .refl
  · split
    case isTrue hup => exact .tail (.single (.send hup rfl (List.mem_of_elem_eq_true rfl))) (.number _)
    case isFalse => exact .refl

/-- R172 to R176: a fault handed to the log is taken, and noticed where the log was empty. -/
theorem logFault_eq (f : FaultRec) (s : State) :
    logFault f s =
      if s.fl.records = [] then
        sendNotice (faultNotice { f with sequence := s.fl.sequence }) { s with fl := s.fl.after f }
      else { s with fl := s.fl.after f } := by
  by_cases hempty : s.fl.records = []
  · simp [logFault, FaultLog.after, hempty, Config.logCapacity]
  · by_cases hroom : s.fl.records.length < 16
    · simp [logFault, FaultLog.after, hempty, Config.logCapacity, hroom]
    · simp [logFault, FaultLog.after, hempty, Config.logCapacity, hroom]

theorem logFault_acts (f : FaultRec) : Acts s (logFault f s) := by
  rw [logFault_eq]
  split
  · exact (Acts.one (.log f)).trans (sendNotice_acts _)
  · exact .single (.log f)

theorem endRequest_acts (code : RefusalCode) (r : Request) : Acts s (endRequest code r s) := by
  unfold endRequest
  split
  · exact .refl
  · exact sendClient_acts (List.mem_of_elem_eq_true rfl)

theorem reportRefusal_acts (code : RefusalCode) (d : Domain) (r : Request) : Acts s (reportRefusal code d r s) := by
  unfold reportRefusal
  split
  · exact logFault_acts _
  · exact .refl

theorem refuse_acts (code : RefusalCode) (d : Domain) (r : Request) : Acts s (refuse code d r s) :=
  (endRequest_acts code r).trans (reportRefusal_acts code d r)

theorem completeSlot_acts {sl : Slot} {k : ClientPacket} (hk : k.kind ∈ clientKinds) : Acts s (completeSlot sl k s) := by
  unfold completeSlot
  split
  · exact .refl
  · exact sendClient_acts hk

theorem refuseSlot_acts (sl : Slot) (code : RefusalCode) : Acts s (refuseSlot sl code s) := by
  unfold refuseSlot
  split
  · exact .refl
  · exact completeSlot_acts (List.mem_of_elem_eq_true rfl)

/-! ### Client ports -/

theorem updPort_updPort (p : Port) (f g : PortState → PortState) (s : State) :
    (s.updPort p f).updPort p g = s.updPort p (g ∘ f) := by
  simp [State.updPort]

/-- A packet to a client and a change of a port that leaves its link as it was go in either order. -/
theorem updPort_sendClient {p q : Port} {f : PortState → PortState} (hlink : ∀ c, (f c).link = c.link)
    (k : ClientPacket) (s : State) : (sendClient p k s).updPort q f = sendClient p k (s.updPort q f) := by
  have hsame : (s.updPort q f).ports[p].link = s.ports[p].link := by
    simp only [Fin.getElem_fin, State.updPort_ports]
    split
    case isTrue h => rw [hlink]; simp only [h]
    case isFalse => rfl
  unfold sendClient
  rw [hsame]
  split <;> rfl

/-- R61: a CREDIT leaves behind the credits it grants. -/
theorem grantCredit_eq (p : Port) (n : Nat) (s : State) :
    grantCredit p n s = sendClient p (creditPacket n) (s.updPort p fun c => { c with credits := c.credits + n }) :=
  updPort_sendClient (by exact fun _ => rfl) ..

theorem setStaging_acts {p : Port} (t : State) (h : Acts (s.setStaging p none) t) : Acts s t :=
  (Acts.one (.unstage p)).trans h

theorem decideMiss_setStaging (p : Port) (r : Request) (d : Domain) (s : State) :
    decideMiss r d (s.setStaging p none) = decideMiss r d s := rfl

/-- R93: the condition under which a miss joins a live record. -/
theorem decideMiss_eq_join {r : Request} {d : Domain} {t : Half} (h : decideMiss r d s = .join t) :
    ∃ m, s.recordAt d (pageOf r.address) = some m ∧ m.ticket = t ∧ s.mu.held.length < Config.heldCapacity := by
  unfold decideMiss at h
  repeat' split at h
  all_goals simp_all

/-- R93: the condition under which a miss makes a record. -/
theorem decideMiss_eq_create {r : Request} {d : Domain} (h : decideMiss r d s = .create) :
    s.mc.owner ≠ none ∧ s.recordAt d (pageOf r.address) = none ∧ s.mu.records.length < Config.missCapacity ∧
      s.mu.held.length < Config.heldCapacity := by
  unfold decideMiss at h
  repeat' split at h
  all_goals simp_all

theorem createMiss_eq (r : Request) (d : Domain) (s : State) :
    createMiss r d s = sendNotice (missNotice (newRecord r d s)) (s.recorded r d) := rfl

/-- R57, R93: a miss handed over from a port. -/
theorem takeMiss_acts {p : Port} {r : Request} (d : Domain) (hoffered : s.Offered p r) :
    Acts s (takeMiss r d (s.setStaging p none)) := by
  unfold takeMiss
  rw [decideMiss_setStaging]
  cases hdecide : decideMiss r d s with
  | refused code => exact setStaging_acts _ (refuse_acts ..)
  | join t =>
    obtain ⟨m, hrecord, rfl, hroom⟩ := decideMiss_eq_join hdecide
    exact .single (.join hoffered hrecord hroom)
  | create =>
    obtain ⟨howner, hnone, hrecords, hroom⟩ := decideMiss_eq_create hdecide
    simp only [createMiss_eq]
    exact (Acts.one (.record hoffered howner hnone hrecords hroom)).trans (sendNotice_acts _)

theorem judgeInDomain_acts {p : Port} {r : Request} {d : Domain} (hoffered : s.Offered p r)
    (hbound : s.du.streams[p][r.stream] = some d) : Acts s (judgeInDomain p r d s) := by
  unfold judgeInDomain
  cases hstate : s.du.domains[d].state with
  | paused => exact setStaging_acts _ (refuse_acts ..)
  | barred => exact setStaging_acts _ (refuse_acts ..)
  | active =>
    cases hlookup : lookup d r.address r.kind s with
    | hitAllowed node fa i => exact .single (.stage hoffered hbound hstate hlookup)
    | hitRefused => exact setStaging_acts _ (refuse_acts ..)
    | miss => exact takeMiss_acts d hoffered

theorem judgeAtPort_acts {p : Port} {r : Request} (hoffered : s.Offered p r) : Acts s (judgeAtPort p r s) := by
  unfold judgeAtPort
  cases hbound : s.du.streams[p][r.stream] with
  | none => exact setStaging_acts _ (endRequest_acts ..)
  | some d => exact judgeInDomain_acts hoffered hbound

theorem refuseMalformed_acts (p : Port) (pkt : RxPacket) : Acts s (refuseMalformed p pkt s) := by
  unfold refuseMalformed
  split
  · split
    · exact logFault_acts _
    · exact .refl
  · exact sendClient_acts (List.mem_of_elem_eq_true rfl)

/-- R58: a request that a head carries names its port. -/
theorem request_port {p : Port} {pkt : RxPacket} {r : Request} (h : pkt.request p = some r) : r.port = p := by
  unfold RxPacket.request at h
  split at h
  · simp at h
  · split at h
    · simp at h
    · rw [← Option.some.inj h]

theorem judgeHead_acts {p : Port} (pkt : RxPacket) (hqueue : s.ports[p].queue ≠ []) : Acts s (judgeHead p pkt s) := by
  unfold judgeHead
  cases hrequest : pkt.request p with
  | none => exact refuseMalformed_acts p pkt
  | some r =>
    cases hadmission : s.mc.admission with
    | closed => exact endRequest_acts ..
    | draining => exact endRequest_acts ..
    | quiesced => exact endRequest_acts ..
    | opened => exact judgeAtPort_acts (.inl ⟨hadmission, hqueue, request_port hrequest⟩)

end

end Sys2Proof.Machine
end

section
/-! PROOFS. The events of the part as runs of acts: heads, grants, responses, expiries, replays, deferred replies. -/

namespace Sys2Proof.Machine

/-! ### Heads -/

/-- The queue of a port is left alone by all that decides a request of a port. -/
theorem judgeInDomain_queue (p : Port) (r : Request) (d : Domain) (s : State) :
    (judgeInDomain p r d s).ports[p].queue = s.ports[p].queue := by
  unfold judgeInDomain
  repeat' split
  all_goals simp

theorem judgeAtPort_queue (p : Port) (r : Request) (s : State) :
    (judgeAtPort p r s).ports[p].queue = s.ports[p].queue := by
  unfold judgeAtPort
  split
  · simp
  · exact judgeInDomain_queue ..

theorem judgeHead_queue (p : Port) (pkt : RxPacket) (s : State) :
    (judgeHead p pkt s).ports[p].queue = s.ports[p].queue := by
  unfold judgeHead refuseMalformed
  repeat' split
  all_goals first | exact judgeAtPort_queue .. | simp

section
variable {s : State}

theorem processHead_acts {p : Port} {pkt : RxPacket} {rest : List RxPacket} (hqueue : s.ports[p].queue = pkt :: rest) :
    Acts s (processHead p pkt rest s) := by
  have hhead := (judgeHead_queue p pkt s).trans hqueue
  rw [processHead, grantCredit_eq, updPort_updPort]
  exact ((judgeHead_acts pkt (by rw [hqueue]; exact List.cons_ne_nil _ _)).tail (.takeHead hhead)).trans (sendClient_acts (List.mem_of_elem_eq_true rfl))

/-! ### Grants -/

/-- The slot a grant writes and the staging position it empties, then the request upstream. -/
theorem grantTo_eq (w : Requester) (q : Staged) (i : SlotIndex) (s : State) :
    grantTo w q i s = sendFabric (requestPacket s.ownNode q (upstreamTag i (s.fu.ort[i].incarnation + 1)))
      (leaveStaging w (s.slotGranted w q i)) := rfl

theorem leaveStaging_strap (w : Requester) (s : State) : (leaveStaging w s).strap = s.strap := by
  cases w <;> rfl

theorem fabricCode_mem (k : ReqKind) : k.fabricCode ∈ fabricKinds := by
  cases k <;> decide

theorem grantTo_acts {w : Requester} {q : Staged} {i : SlotIndex} (hstaged : s.stagedAt w = some q)
    (hfree : s.fu.ort[i].occupied = false) : Acts s (grantTo w q i s) := by
  rw [grantTo_eq]
  refine .trans (.single (.grant hstaged hfree)) (sendFabric_acts ?_ (fabricCode_mem _))
  simp [requestPacket, State.ownNode, leaveStaging_strap, State.slotGranted]

theorem lowestFree_free {i : SlotIndex} (h : s.lowestFree = some i) : s.fu.ort[i].occupied = false := by
  simpa using List.find?_some h

/-! ### Responses and expiries -/

theorem endProtocol_acts (i : SlotIndex) (sl : Slot) : Acts s (endProtocol i sl s) :=
  (refuseSlot_acts ..).trans (logFault_acts _)

theorem endProtocol_fu (i : SlotIndex) (sl : Slot) : (endProtocol i sl s).fu = s.fu := by
  simp [endProtocol]

/-- What a response does before its slot is freed: a run of acts that leaves the Forwarding Unit as it was. -/
abbrev EndsSlot (handle : Response → SlotIndex → Slot → State → State) : Prop :=
  ∀ r i sl s, Acts s (handle r i sl s) ∧ (handle r i sl s).fu = s.fu

theorem onReadData_ends : EndsSlot onReadData := by
  intro r i sl s
  unfold onReadData endReadData
  repeat' split
  all_goals first
    | exact ⟨endProtocol_acts .., endProtocol_fu ..⟩
    | exact ⟨completeSlot_acts (List.mem_of_elem_eq_true rfl), by simp⟩
    | exact ⟨(refuseSlot_acts ..).trans (logFault_acts _), by simp⟩

theorem onWriteAck_ends : EndsSlot onWriteAck := by
  intro r i sl s
  unfold onWriteAck
  split
  · exact ⟨endProtocol_acts .., endProtocol_fu ..⟩
  · exact ⟨completeSlot_acts (List.mem_of_elem_eq_true rfl), by simp⟩
  · exact ⟨.refl, rfl⟩

theorem onFabricError_ends : EndsSlot onFabricError := by
  intro r i sl s
  unfold onFabricError
  split
  · exact ⟨refuseSlot_acts .., by simp⟩
  · exact ⟨refuseSlot_acts .., by simp⟩
  · exact ⟨logFault_acts _, by simp⟩

/-- A slot whose request has ended is freed. -/
theorem freeSlot_acts {i : SlotIndex} {t : State} (hocc : s.fu.ort[i].occupied = true) (h : Acts s t)
    (hfu : t.fu = s.fu) : Acts s (freeSlot i t) :=
  h.tail (.free (by rw [hfu]; exact hocc))

theorem respond_acts {handle : Response → SlotIndex → Slot → State → State} (h : EndsSlot handle) (r : Response) :
    Acts s (respond handle r s) := by
  unfold respond
  split
  · exact .refl
  split
  case isTrue hmatched =>
    have hocc : s.fu.ort[tagSlot r.tag].occupied = true := by
      simp only [State.matched, Bool.and_eq_true] at hmatched
      exact hmatched.1.1
    by_cases hbad : badAddress r = true
    · simp only [hbad, if_true]
      exact freeSlot_acts hocc (endProtocol_acts ..) (endProtocol_fu ..)
    · simp only [hbad]
      exact freeSlot_acts hocc (h ..).1 (h ..).2
  case isFalse => exact logFault_acts _

theorem expireSlot_acts {i : SlotIndex} (hocc : s.fu.ort[i].occupied = true) : Acts s (expireSlot i s) := by
  unfold expireSlot
  refine freeSlot_acts hocc ?_ ?_
  · split
    · exact refuseSlot_acts ..
    · exact refuseSlot_acts ..
    · exact logFault_acts _
  · split
    · exact refuseSlot_fu ..
    · exact refuseSlot_fu ..
    · exact logFault_fu ..

theorem expireTicket_acts (t : Half) : Acts s (expireTicket s t) := by
  unfold expireTicket
  split
  · split
    · exact ((Acts.foldl (fun _ _ => endRequest_acts ..) _ _).trans (logFault_acts _)).tail (.forget _)
    · exact .refl
  · exact .refl

theorem denyRecord_acts (m : MissRec) : Acts s (denyRecord m s) :=
  (Acts.foldl (fun _ _ => refuse_acts ..) _ _).tail (.forget _)

/-! ### Replay -/

theorem judgeReplay_acts {r : Request} {d : Domain} (hoffered : s.OfferedToRp r d) : Acts s (judgeReplay r d s) := by
  unfold judgeReplay
  cases hstate : s.du.domains[d].state with
  | paused => exact (refuse_acts ..).tail .pop
  | barred => exact (refuse_acts ..).tail .pop
  | active =>
    cases hlookup : lookup d r.address r.kind s with
    | hitAllowed node fa i => exact .single (.stageRp hoffered hstate hlookup)
    | hitRefused => exact (refuse_acts ..).tail .pop
    | miss => exact (refuse_acts ..).tail .pop

/-! ### Deferred replies -/

/-- A reply and a change of what it does not show go in either order. -/
theorem map_sendReply {F : State → State} (hfabric : ∀ s, (F s).fabric = s.fabric)
    (hstrap : ∀ s, (F s).strap = s.strap) (hemit : ∀ x s, F (s.emit x) = (F s).emit x)
    (node sequence code : Byte) (status : ReplyStatus) (results : List Byte) (s : State) :
    F (sendReply node sequence code status results s) = sendReply node sequence code status results (F s) := by
  simp only [sendReply, sendFabric, State.ownNode, hfabric, hstrap]
  split
  · exact hemit ..
  · rfl

/-- R135: a deferred reply is a reply behind its entry in the cache. -/
theorem deferredReply_eq (name : Answer) (node sequence code : Byte) (status : ReplyStatus) (results : List Byte)
    (s : State) : deferredReply name node sequence code status results s =
      sendReply node sequence code status results (s.cacheSettled name status results) := by
  have hswap (c : Option CacheEntry) : (sendReply node sequence code status results s).setCache c =
      sendReply node sequence code status results (s.setCache c) :=
    map_sendReply (F := State.setCache c) (fun _ => rfl) (fun _ => rfl) (fun _ _ => rfl) ..
  rw [State.cacheSettled, ← hswap, deferredReply, sendReply_mc]
  cases hcache : s.mc.cache with
  | none => exact (setCache_eq_self (by rw [sendReply_mc, hcache]; rfl)).symm
  | some e =>
    by_cases hname : e.answer = name
    · simp [CacheEntry.settled, hname]
    · simpa [CacheEntry.settled, hname] using (setCache_eq_self (by rw [sendReply_mc, hcache])).symm

theorem completeOldestFence_of_due {f : FenceRec} (hdue : s.fu.fences.find? FenceRec.due = some f) :
    completeOldestFence s = sendReply f.node f.sequence f.command.code .ok [numByte f.count] (s.unfenced f) := by
  rw [completeOldestFence, hdue]
  exact deferredReply_eq ..

theorem completeOldestFence_acts : Acts s (completeOldestFence s) := by
  cases hdue : s.fu.fences.find? FenceRec.due with
  | none => rw [completeOldestFence, hdue]
  | some f =>
    rw [completeOldestFence_of_due hdue]
    exact .trans (.single (.completeFence hdue)) (sendReply_acts ..)

theorem setFu_deferredReply (fu : ForwardUnit) (name : Answer) (node sequence code : Byte) (status : ReplyStatus)
    (results : List Byte) (s : State) :
    ({ deferredReply name node sequence code status results s with fu := fu } : State) =
      deferredReply name node sequence code status results { s with fu := fu } := by
  rw [deferredReply_eq, deferredReply_eq]
  exact map_sendReply (F := fun s => { s with fu := fu }) (fun _ => rfl) (fun _ => rfl) (fun _ _ => rfl) ..

theorem setFu_foldl_replyFence (fu : ForwardUnit) (l : List FenceRec) (s : State) :
    ({ l.foldl (fun s f => replyFence f s) s with fu := fu } : State) =
      l.foldl (fun s f => replyFence f s) { s with fu := fu } := by
  induction l generalizing s with
  | nil => rfl
  | cons f l ih =>
    rw [List.foldl_cons, ih]
    exact congrArg (l.foldl (fun s f => replyFence f s)) (setFu_deferredReply ..)

/-- R126: the due records are replied to in the order in which the oldest of them is, one by one. -/
theorem completeDueFences_completeOldestFence (s : State) :
    completeDueFences (completeOldestFence s) = completeDueFences s := by
  cases hdue : s.fu.fences.find? FenceRec.due with
  | none => rw [completeOldestFence, hdue]
  | some f =>
    obtain ⟨hf, before, after, hfences, hbefore⟩ := List.find?_eq_some_iff_append.1 hdue
    have hnone : before.filter FenceRec.due = [] := by
      rw [List.filter_eq_nil_iff]; exact fun g hg => by simpa using hbefore g hg
    have herase : s.fu.fences.eraseP FenceRec.due = before ++ after := by
      rw [hfences, List.eraseP_append_right _ (fun g hg => by simpa using hbefore g hg), List.eraseP_cons_of_pos hf]
    have hfirst : s.fu.fences.filter FenceRec.due = f :: after.filter FenceRec.due := by
      rw [hfences, List.filter_append, hnone, List.filter_cons_of_pos hf, List.nil_append]
    have hrest : (before ++ after).filter FenceRec.due = after.filter FenceRec.due := by
      rw [List.filter_append, hnone, List.nil_append]
    have hkept : (before ++ after).filter (fun f => !f.due) = s.fu.fences.filter fun f => !f.due := by
      rw [hfences, List.filter_append, List.filter_append, List.filter_cons_of_neg (by simp [hf])]
    rw [completeOldestFence, hdue, herase]
    simp only [completeDueFences, replyFence_fu]
    rw [hrest, hfirst, hkept, List.foldl_cons]
    exact congrArg ((after.filter FenceRec.due).foldl fun s f => replyFence f s) (setFu_deferredReply ..)

/-- A law that every fence reply keeps, the replies of all due records keep, whichever way they are counted. -/
theorem completeDueFences_induct {P : State → Prop} (hdone : ∀ t, t.fenceDue = false → P t)
    (hstep : ∀ t, P (completeOldestFence t) → P t) (s : State) : P s := by
  induction hn : (s.fu.fences.countP FenceRec.due) generalizing s with
  | zero => exact hdone s (by simpa [State.fenceDue, List.countP_eq_zero] using hn)
  | succ n ih =>
    refine hstep s (ih _ ?_)
    have hpos : 0 < s.fu.fences.countP FenceRec.due := by omega
    obtain ⟨g, hg, hgdue⟩ := List.countP_pos_iff.1 hpos
    obtain ⟨f, hf⟩ := Option.isSome_iff_exists.1 (List.find?_isSome.2 ⟨g, hg, hgdue⟩)
    rw [completeOldestFence, hf, replyFence_fu]
    obtain ⟨hfdue, before, after, hfences, hbefore⟩ := List.find?_eq_some_iff_append.1 hf
    rw [hfences, List.eraseP_append_right _ (fun g hg => by simpa using hbefore g hg), List.eraseP_cons_of_pos hfdue]
    rw [hfences, List.countP_append, List.countP_cons_of_pos hfdue] at hn
    rw [List.countP_append]
    omega

theorem completeDueFences_acts : Acts s (completeDueFences s) := by
  refine completeDueFences_induct (P := fun s => Acts s (completeDueFences s)) (fun t hnone => ?_) (fun t h => ?_) s
  · rw [completeDueFences_none t hnone]
  · rw [completeDueFences_completeOldestFence] at h
    exact completeOldestFence_acts.trans h

theorem answerQuiesce_eq (status : ReplyStatus) (s : State) :
    answerQuiesce status s = match s.mc.quiesce with
      | none => s.unquiesced status
      | some q => sendReply q.node q.sequence 0x12 status [] (s.unquiesced status) := by
  unfold answerQuiesce State.unquiesced
  cases s.mc.quiesce with
  | none => rfl
  | some q => exact deferredReply_eq ..

theorem setAdmission_sendReply (a : Admission) (node sequence code : Byte) (status : ReplyStatus)
    (results : List Byte) (s : State) : (sendReply node sequence code status results s).setAdmission a =
      sendReply node sequence code status results (s.setAdmission a) :=
  map_sendReply (F := State.setAdmission a) (fun _ => rfl) (fun _ => rfl) (fun _ _ => rfl) ..

/-- R154, R157, R159, R162: the pending QUIESCE is answered and admission moves. -/
theorem setAdmission_answerQuiesce_acts (status : ReplyStatus) {a : Admission} (hto : a ≠ .draining)
    (hquiet : a = .quiesced → s.quiet = true) (howner : a = .opened → s.mc.owner.isSome = true) :
    Acts s ((answerQuiesce status s).setAdmission a) := by
  have hact : Acts s ((s.unquiesced status).setAdmission a) := .single (.conclude status a hto hquiet howner)
  rw [answerQuiesce_eq]
  cases s.mc.quiesce with
  | none => exact hact
  | some q =>
    simp only [setAdmission_sendReply]
    exact hact.trans (sendReply_acts ..)

theorem answerQuiesce_setAdmission (status : ReplyStatus) (a : Admission) (s : State) :
    answerQuiesce status (s.setAdmission a) = (answerQuiesce status s).setAdmission a := by
  cases hquiesce : s.mc.quiesce with
  | none => simp [answerQuiesce, hquiesce]
  | some q =>
    simp only [answerQuiesce, State.setAdmission_mc_quiesce, hquiesce, deferredReply_eq, setAdmission_sendReply]
    rfl

theorem endDrain_acts : Acts s (endDrain s) := by
  unfold endDrain
  split
  case isTrue h =>
    rw [completeDrain, answerQuiesce_setAdmission]
    exact setAdmission_answerQuiesce_acts _ (by simp) (fun _ => h.2) (by simp)
  case isFalse => exact .refl

/-! ### Before time passes -/

theorem expireIfDue_acts (i : SlotIndex) : Acts s (expireIfDue s i) := by
  unfold expireIfDue
  split
  case isTrue h => exact (expireSlot_acts h.1).trans completeDueFences_acts
  case isFalse => exact .refl

theorem settle_acts : Acts s (settle s) :=
  ((completeDueFences_acts.trans (Acts.foldl (fun _ _ => expireIfDue_acts _) _ _)).trans
    (Acts.foldl (fun _ _ => expireTicket_acts _) _ _)).trans endDrain_acts

end

end Sys2Proof.Machine
end

section
/-! PROOFS. RESET as a run of acts, and what it leaves of ports and slots (R64, R86, R112, R126, R162). -/

namespace Sys2Proof.Machine

/-! ### Sweeps over a table -/

/-- A sweep over the indices of a table that treats each entry by itself: every entry comes out treated once. -/
theorem foldl_table {α : Type} {n : Nat} {get : State → Fin n → α} {f : State → Fin n → State} {g : α → α}
    (hf : ∀ s i j, get (f s i) j = if j = i then g (get s j) else get s j) {l : List (Fin n)} (hl : l.Nodup)
    (s : State) (j : Fin n) : get (l.foldl f s) j = if j ∈ l then g (get s j) else get s j := by
  induction l generalizing s with
  | nil => rfl
  | cons i l ih =>
    obtain ⟨hi, hl⟩ := List.nodup_cons.1 hl
    rw [List.foldl_cons, ih hl, hf]
    by_cases hj : j = i
    · subst hj; simp [hi]
    · simp [hj]

theorem foldl_finRange {α : Type} {n : Nat} {get : State → Fin n → α} {f : State → Fin n → State} {g : α → α}
    (hf : ∀ s i j, get (f s i) j = if j = i then g (get s j) else get s j) (s : State) (j : Fin n) :
    get ((List.finRange n).foldl f s) j = g (get s j) := by
  rw [foldl_table hf (List.nodup_finRange n), if_pos (List.mem_finRange j)]

/-- R81: a slot freed, its other fields kept. -/
def Slot.freed (sl : Slot) : Slot := { sl with occupied := false }

theorem Slot.freed_of_free {sl : Slot} (h : sl.occupied = false) : sl.freed = sl := by
  cases sl; simp_all [Slot.freed]

theorem freeSlot_ort_freed (i j : SlotIndex) (s : State) :
    (freeSlot i s).fu.ort[j] = if j = i then s.fu.ort[j].freed else s.fu.ort[j] := by
  simp only [Fin.getElem_fin, freeSlot_ort, Fin.ext_iff, eq_comm (a := j.val)]
  split
  case isTrue h => simp only [h, Slot.freed]
  case isFalse => rfl

/-! ### Ports -/

/-- R64: what a RESET leaves of a port. -/
def PortState.afterReset (c : PortState) : PortState :=
  if c.link = .up then { c with queue := [], staging := none, credits := c.credits + c.queue.length } else c

section
variable {s : State}

theorem endQueued_acts (p : Port) (pkt : RxPacket) : Acts s (endQueued p pkt s) := by
  unfold endQueued
  split
  · exact .refl
  · exact sendClient_acts (List.mem_of_elem_eq_true rfl)

theorem endQueued_ports (p : Port) (pkt : RxPacket) (s : State) : (endQueued p pkt s).ports = s.ports := by
  unfold endQueued
  split <;> simp

theorem setStaging_of_none {p : Port} (h : s.ports[p].staging = none) : s.setStaging p none = s := by
  have hsame : ({ s.ports[p] with staging := none } : PortState) = s.ports[p] := by rw [← h]
  rw [State.setStaging, State.updPort, hsame]
  simp

/-- R64, R65: the staged request of a port ends, and the staging position is empty. -/
theorem endStaged_eq (code : RefusalCode) (p : Port) (s : State) :
    endStaged code p s = match s.ports[p].staging with
      | some q => endRequest code q.req (s.setStaging p none)
      | none => s.setStaging p none := by
  cases hstaging : s.ports[p].staging with
  | none => simp only [endStaged, hstaging, setStaging_of_none hstaging]
  | some q => simp only [endStaged, hstaging]

theorem endStaged_acts (code : RefusalCode) (p : Port) : Acts s (endStaged code p s) := by
  rw [endStaged_eq]
  split
  · exact setStaging_acts _ (endRequest_acts ..)
  · exact .single (.unstage p)

theorem endStaged_ports (code : RefusalCode) (p : Port) (s : State) :
    (endStaged code p s).ports = (s.setStaging p none).ports := by
  rw [endStaged_eq]
  split <;> simp

/-- R64: the staged request of a port and its queued packets end; the queue itself is not empty yet. -/
def endPort (p : Port) (s : State) : State :=
  s.ports[p].queue.foldl (fun s pkt => endQueued p pkt s) (endStaged .reset p s)

theorem endPort_ports (p : Port) (s : State) : (endPort p s).ports = (s.setStaging p none).ports :=
  (foldl_keeps (·.ports) _ (fun _ _ => endQueued_ports ..) _ _).trans (endStaged_ports ..)

theorem endPort_self (p : Port) (s : State) : (endPort p s).ports[p] = { s.ports[p] with staging := none } := by
  rw [endPort_ports, State.setStaging, State.updPort_ports_self]

theorem endPort_acts (p : Port) : Acts s (endPort p s) :=
  (endStaged_acts .reset p).trans (Acts.foldl (fun _ _ => endQueued_acts p _) s.ports[p].queue _)

/-- R64: the port's requests end, then the queue empties and its CREDIT leaves. -/
theorem resetPort_of_up {p : Port} (hup : s.ports[p].link = .up) :
    resetPort s p =
      if s.ports[p].queue = [] then (endPort p s).queueEmptied p
      else sendClient p (creditPacket s.ports[p].queue.length) ((endPort p s).queueEmptied p) := by
  have hqueue : (endPort p s).ports[p].queue = s.ports[p].queue := by rw [endPort_self]
  rw [resetPort, if_pos hup]
  simp only [grantCredit_eq, updPort_updPort, State.queueEmptied]
  split
  case isTrue hempty =>
    have hlength : (endPort p s).ports[p].queue.length = 0 := by rw [hqueue, hempty, List.length_nil]
    simp only [State.updPort, hlength]
    rfl
  case isFalse =>
    simp only [State.updPort, hqueue]
    rfl

theorem resetPort_acts (p : Port) : Acts s (resetPort s p) := by
  by_cases hup : s.ports[p].link = .up
  case neg => rw [resetPort, if_neg hup]
  have hacts : Acts s ((endPort p s).queueEmptied p) :=
    (endPort_acts p).tail (.emptyQueue (by rw [endPort_self]; exact hup))
  rw [resetPort_of_up hup]
  split
  · exact hacts
  · exact hacts.trans (sendClient_acts (List.mem_of_elem_eq_true rfl))

theorem resetPort_ports (s : State) (p q : Port) :
    (resetPort s p).ports[q] = if q = p then s.ports[q].afterReset else s.ports[q] := by
  by_cases hup : s.ports[p].link = .up
  case neg =>
    rw [resetPort, if_neg hup]
    split
    case isTrue h => rw [h, PortState.afterReset, if_neg hup]
    case isFalse => rfl
  have hports : (resetPort s p).ports = ((endPort p s).queueEmptied p).ports := by
    rw [resetPort_of_up hup]
    split <;> simp
  rw [hports, State.queueEmptied]
  by_cases hq : q = p
  · subst hq
    rw [if_pos rfl, State.updPort_ports_self, endPort_self, PortState.afterReset, if_pos hup]
  · rw [if_neg hq, State.updPort_ports_ne _ _ _ _ hq, endPort_ports, State.setStaging,
      State.updPort_ports_ne _ _ _ _ hq]

/-! ### Slots -/

theorem resetSlot_acts (i : SlotIndex) : Acts s (resetSlot s i) := by
  unfold resetSlot
  split
  case isTrue hocc =>
    exact (freeSlot_acts hocc (refuseSlot_acts ..) (refuseSlot_fu ..)).trans completeDueFences_acts
  case isFalse => exact .refl

theorem resetSlot_ort (s : State) (i j : SlotIndex) :
    (resetSlot s i).fu.ort[j] = if j = i then s.fu.ort[j].freed else s.fu.ort[j] := by
  unfold resetSlot
  split
  case isTrue => simp only [completeDueFences_fu_ort, freeSlot_ort_freed, refuseSlot_fu]
  case isFalse hfree =>
    split
    case isTrue h => rw [h, Slot.freed_of_free (by simpa using hfree)]
    case isFalse => rfl

theorem resetSlots_acts : Acts s (resetSlots s) :=
  completeDueFences_acts.trans (Acts.foldl (fun _ _ => resetSlot_acts _) _ _)

theorem resetSlots_ort (s : State) (j : SlotIndex) : (resetSlots s).fu.ort[j] = s.fu.ort[j].freed := by
  rw [resetSlots, foldl_finRange (get := fun s j => s.fu.ort[j]) resetSlot_ort, completeDueFences_fu_ort]

/-! ### The whole of the traffic -/

theorem endMissUnit_acts (code : RefusalCode) : Acts s (endMissUnit code s) :=
  (Acts.foldl (fun _ _ => endRequest_acts ..) _ _).tail .emptyMissUnit

theorem endTraffic_acts : Acts s (endTraffic s) := by
  have hports : Acts s ((List.finRange 4).foldl resetPort s) := Acts.foldl (fun _ _ => resetPort_acts _) _ _
  exact ((hports.trans resetSlots_acts).trans (endMissUnit_acts _)).trans
    (setAdmission_answerQuiesce_acts _ (by simp) (by simp) (by simp))

end

@[simp] theorem resetSlot_ports (s : State) (i : SlotIndex) : (resetSlot s i).ports = s.ports := by
  unfold resetSlot
  split <;> simp

@[simp] theorem resetSlots_ports (s : State) : (resetSlots s).ports = s.ports :=
  (foldl_keeps (·.ports) _ resetSlot_ports _ _).trans (completeDueFences_ports s)

theorem endQueued_fu (p : Port) (pkt : RxPacket) (s : State) : (endQueued p pkt s).fu = s.fu := by
  unfold endQueued
  split <;> simp

theorem endPort_fu (p : Port) (s : State) : (endPort p s).fu = s.fu := by
  have hstaged : (endStaged .reset p s).fu = s.fu := by rw [endStaged_eq]; split <;> simp
  exact (foldl_keeps (·.fu) _ (fun _ _ => endQueued_fu ..) _ _).trans hstaged

@[simp] theorem resetPort_fu (s : State) (p : Port) : (resetPort s p).fu = s.fu := by
  by_cases hup : s.ports[p].link = .up
  · rw [resetPort_of_up hup]
    split <;> simp [State.queueEmptied, endPort_fu]
  · rw [resetPort, if_neg hup]

@[simp] theorem endMissUnit_ports (code : RefusalCode) (s : State) : (endMissUnit code s).ports = s.ports :=
  foldl_keeps (·.ports) _ (by intros; simp) _ _

@[simp] theorem endMissUnit_fu (code : RefusalCode) (s : State) : (endMissUnit code s).fu = s.fu :=
  foldl_keeps (·.fu) _ (by intros; simp) _ _

theorem endTraffic_ports (s : State) (p : Port) : (endTraffic s).ports[p] = s.ports[p].afterReset := by
  simp only [endTraffic, State.setAdmission_ports, answerQuiesce_ports, endMissUnit_ports, resetSlots_ports]
  exact foldl_finRange (get := fun s p => s.ports[p]) resetPort_ports s p

theorem endTraffic_ort (s : State) (i : SlotIndex) : (endTraffic s).fu.ort[i] = s.fu.ort[i].freed := by
  simp only [endTraffic, State.setAdmission_fu, answerQuiesce_fu, endMissUnit_fu, resetSlots_ort,
    foldl_keeps (·.fu) _ resetPort_fu]

theorem endTraffic_admission (s : State) : (endTraffic s).mc.admission = .closed := rfl

theorem endTraffic_records (s : State) : (endTraffic s).mu.records = [] := by
  simp [endTraffic, endMissUnit]

theorem endTraffic_rp (s : State) : (endTraffic s).mu.rp = none := by
  simp [endTraffic, endMissUnit]

theorem PortState.afterReset_staging {c : PortState} (h : c.afterReset.link = .up) : c.afterReset.staging = none := by
  unfold PortState.afterReset at h ⊢
  split <;> simp_all

theorem resetTraffic_acts (s : State) : Acts s (resetTraffic s) := endTraffic_acts.tail (.cause _)

theorem resetFull_acts (s : State) : Acts s (resetFull s) := by
  have hclear : Act (endTraffic s) (clearTables (endTraffic s)) := by
    refine .clear (endTraffic_admission s) (endTraffic_records s) (endTraffic_rp s) (fun p hup => ?_) fun i => ?_
    · rw [endTraffic_ports] at hup ⊢
      exact PortState.afterReset_staging hup
    · rw [endTraffic_ort, Slot.freed]
  exact (endTraffic_acts.tail hclear).tail (.cause _)

end Sys2Proof.Machine
end

section
/-! PROOFS. The COMMAND packets as runs of acts, and with them every command (R131 to R135). -/

namespace Sys2Proof.Machine

section
variable {s : State}

/-! ### Steps 1 to 3 and the reply -/

theorem updPort_link {f : PortState → PortState} (hf : ∀ c, (f c).link = c.link) (p q : Port) (s : State) :
    (s.updPort p f).ports[q].link = s.ports[q].link := by
  by_cases hq : q = p
  · rw [hq, State.updPort_ports_self, hf]
  · rw [State.updPort_ports_ne _ _ _ _ hq]

theorem setStaging_link (p q : Port) (x : Option Staged) (s : State) :
    (s.setStaging p x).ports[q].link = s.ports[q].link := updPort_link (by exact fun _ => rfl) p q s

theorem markStale_link (hits : Staged → Bool) (s : State) (q : Port) :
    (markStale hits s).ports[q].link = s.ports[q].link := by
  simp

/-- What an act leaves of the links, the strap and the queue: all of it. -/
theorem Act.links {t : State} (h : Act s t) :
    t.fabric = s.fabric ∧ t.strap = s.strap ∧ t.pending = s.pending ∧
      ∀ p : Port, t.ports[p].link = s.ports[p].link := by
  cases h with
  | arrive | takeHead | emptyQueue => exact ⟨rfl, rfl, rfl, fun q => updPort_link (by exact fun _ => rfl) _ q s⟩
  | unstage | join | record => exact ⟨rfl, rfl, rfl, fun q => setStaging_link _ q _ s⟩
  | @stage p _ _ _ _ i => exact ⟨rfl, rfl, rfl, fun q => setStaging_link p q _ (setHit i s)⟩
  | @grant w q i => cases w with
    | cp p => exact ⟨rfl, rfl, rfl, fun q' => setStaging_link p q' none (s.slotGranted _ q i)⟩
    | rp => exact ⟨rfl, rfl, rfl, fun _ => rfl⟩
  | conclude =>
    unfold State.unquiesced
    split <;> exact ⟨rfl, rfl, rfl, fun _ => rfl⟩
  | bind | setDomain | place | invalidate => exact ⟨rfl, rfl, rfl, fun q => markStale_link _ _ q⟩
  | _ => exact ⟨rfl, rfl, rfl, fun _ => rfl⟩

theorem Acts.links {t : State} (h : Acts s t) :
    t.fabric = s.fabric ∧ t.strap = s.strap ∧ t.pending = s.pending ∧
      ∀ p : Port, t.ports[p].link = s.ports[p].link := by
  induction h with
  | refl => exact ⟨rfl, rfl, rfl, fun _ => rfl⟩
  | tail _ hact ih =>
    obtain ⟨hfabric, hstrap, hpending, hlink⟩ := hact.links
    obtain ⟨ihfabric, ihstrap, ihpending, ihlink⟩ := ih
    exact ⟨hfabric.trans ihfabric, hstrap.trans ihstrap, hpending.trans ihpending, fun p => (hlink p).trans (ihlink p)⟩

theorem Acts.ownNode {t : State} (h : Acts s t) : t.ownNode = s.ownNode := by
  rw [State.ownNode, State.ownNode, h.links.2.1]

theorem answerFromCache_acts (e : CacheEntry) : Acts s (answerFromCache e s) := by
  unfold answerFromCache
  split <;> exact sendReply_acts ..

theorem envelope_acts {source sequence : Byte} {payload : List Byte} {check : Half} {fromAny : Bool} {t : State}
    (h : envelope source sequence payload check fromAny s = some t) : Acts s t := by
  obtain rfl | rfl | rfl | ⟨e, -, rfl⟩ | ⟨-, rfl⟩ := envelope_some_cases h
  · exact .refl
  · exact logFault_acts _
  · exact logFault_acts _
  · exact answerFromCache_acts e
  · exact sendReply_acts ..

theorem enterCache_acts {source : Byte} (sequence code : Byte) {answer : Answer} (before : State)
    (hnode : source ≠ s.ownNode) (hnamed : CacheEntry.Named ⟨source, sequence, code, answer⟩ s) :
    Acts s (enterCache source sequence code answer before s) := by
  unfold enterCache
  split
  · exact .single (.enter hnode hnamed)
  · exact .refl

theorem finish_now_acts {source : Byte} (sequence code : Byte) (before : State) (status : ReplyStatus)
    (results : List Byte) (hnode : source ≠ s.ownNode) :
    Acts s (finish source sequence code before (s, .now status results)) := by
  have hsend : Acts s (sendReply source sequence code status results s) := sendReply_acts ..
  exact hsend.trans (enterCache_acts sequence code before (by rw [hsend.ownNode]; exact hnode) ⟨by simp, by simp⟩)

/-- A step 5 that is answered at once. -/
abbrev Answered (s : State) (out : State × Reply) : Prop :=
  ∃ status results, out.2 = .now status results ∧ Acts s out.1

theorem answered_reject (status : ReplyStatus) : Answered s (reject status s) := ⟨_, _, rfl, .refl⟩

theorem answered_accept {u : State} (results : List Byte) (h : Acts s u) : Answered s (accept results u) :=
  ⟨_, _, rfl, h⟩

theorem answered_withoutParams {c : Command} {body : State → State × Reply} (h : Answered s (body s)) :
    Answered s (withoutParams c body s) := by
  unfold withoutParams
  split
  · exact h
  · exact answered_reject _

theorem finish_acts {source : Byte} (sequence code : Byte) {out : State × Reply} (before : State)
    (hnode : source ≠ s.ownNode) (h : Answered s out) : Acts s (finish source sequence code before out) := by
  obtain ⟨u, _⟩ := out
  obtain ⟨status, results, rfl, hacts⟩ := h
  exact hacts.trans (finish_now_acts sequence code before status results (by rw [hacts.ownNode]; exact hnode))

/-- R131: a command of the catalogue, its step 5 given as a run of acts. -/
theorem takeCommand_acts {code : Byte} {fromAny : Bool} {c : Command} {body : State → State × Reply}
    (h : c.source ≠ s.ownNode → fromAny = true ∨ s.mc.owner = some c.source →
      Acts s (finish c.source c.sequence code s (body s))) :
    Acts s (takeCommand code fromAny c body s) := by
  obtain ⟨t, henvelope, htake⟩ | ⟨hnone, htake⟩ := takeCommand_cases code fromAny c body s
  · rw [htake]; exact envelope_acts henvelope
  · obtain ⟨-, -, -, hnode, -, hfrom⟩ := (envelope_none_iff ..).1 hnone
    rw [htake]; exact h hnode hfrom

/-- R131: a command from any node that is answered at once. -/
theorem takeCommand_any_acts {code : Byte} {c : Command} {body : State → State × Reply}
    (h : c.source ≠ s.ownNode → Answered s (body s)) : Acts s (takeCommand code true c body s) :=
  takeCommand_acts fun hnode _ => finish_acts _ _ _ hnode (h hnode)

/-- R131: a command of the owner that is answered at once. -/
theorem takeCommand_owner_acts {code : Byte} {c : Command} {body : State → State × Reply}
    (h : s.mc.owner.isSome = true → Answered s (body s)) : Acts s (takeCommand code false c body s) :=
  takeCommand_acts fun hnode hfrom => finish_acts _ _ _ hnode (h (by
    obtain hfalse | howner := hfrom
    · exact absurd hfalse (by simp)
    · rw [howner]; rfl))

/-! ### Ownership and admission -/

theorem answered_claimBody {c : Command} (hnode : c.source ≠ s.ownNode) : Answered s (claimBody c s) := by
  refine answered_withoutParams ?_
  unfold claimOwner
  split
  case h_1 hnone => exact answered_accept _ (.single (.claim hnone hnode))
  case h_2 =>
    split
    · exact answered_accept _ .refl
    · exact answered_reject _

/-- R101: the Miss List behind the denial of a list of records. -/
theorem foldl_denyRecord_records (l : List MissRec) (s : State) :
    (l.foldl (fun s m => denyRecord m s) s).mu.records =
      s.mu.records.filter fun m => !(l.map MissRec.ticket).contains m.ticket := by
  induction l generalizing s with
  | nil => simp
  | cons m l ih =>
    have hfold : ((s.heldOf m.ticket).foldl (fun s h => refuse .denied h.domain h.req s) s).mu.records =
        s.mu.records := foldl_keeps (·.mu.records) _ (by intros; simp) _ _
    rw [List.foldl_cons, ih, denyRecord, freeRecord_records, hfold, List.filter_filter]
    refine List.filter_congr fun m' _ => ?_
    simp [bne, Bool.and_comm, Bool.beq_eq_decide_eq]

theorem foldl_denyRecord_none (s : State) : (s.mu.records.foldl (fun s m => denyRecord m s) s).mu.records = [] := by
  rw [foldl_denyRecord_records, List.filter_eq_nil_iff]
  intro m hm
  simp only [Bool.not_eq_true', Bool.not_eq_false, List.contains_iff_mem]
  exact List.mem_map_of_mem hm

theorem answered_relinquishBody (c : Command) : Answered s (relinquishBody c s) := by
  refine answered_withoutParams ?_
  split
  · exact answered_reject _
  case isFalse hidle =>
    have hdeny : Acts s (s.mu.records.foldl (fun s m => denyRecord m s) s) := Acts.foldl (fun _ _ => denyRecord_acts _) _ _
    have hquiesce : (s.mu.records.foldl (fun s m => denyRecord m s) s).mc.quiesce = none := by
      rw [foldl_keeps (·.mc.quiesce) _ (by intros; simp)]
      simp only [State.replyPending, Bool.or_eq_true, not_or] at hidle
      simpa using hidle.2
    exact answered_accept _ (hdeny.tail (.relinquish (foldl_denyRecord_none s) hquiesce))

theorem answered_openBody (c : Command) (howner : s.mc.owner.isSome = true) : Answered s (openBody c s) := by
  refine answered_withoutParams ?_
  split
  case h_1 hclosed =>
    exact answered_accept _ (.single (.regulate _ (by rw [hclosed]; simp) (by simp) (by simp) fun _ => howner))
  all_goals exact answered_reject _

theorem answered_closeBody (c : Command) : Answered s (closeBody c s) := by
  refine answered_withoutParams ?_
  have hregulate (h : s.mc.admission ≠ .draining) : Answered s (accept [] (s.setAdmission .closed)) :=
    answered_accept _ (.single (.regulate _ h (by simp) (by simp) (by simp)))
  split
  case h_1 => exact answered_accept _ (setAdmission_answerQuiesce_acts _ (by simp) (by simp) (by simp))
  all_goals
    next hadmission => exact hregulate (by rw [hadmission]; simp)

theorem answered_releaseBody (c : Command) (howner : s.mc.owner.isSome = true) : Answered s (releaseBody c s) := by
  refine answered_withoutParams ?_
  split
  case h_1 => exact answered_accept _ (setAdmission_answerQuiesce_acts _ (by simp) (by simp) fun _ => howner)
  case h_2 hquiesced =>
    exact answered_accept _ (.single (.regulate _ (by rw [hquiesced]; simp) (by simp) (by simp) fun _ => howner))
  all_goals exact answered_reject _

/-- R155: a QUIESCE is answered at once, or deferred with its entry in the cache. -/
theorem execQuiesce_acts (c : Command) : Acts s (takeCommand 0x12 false c (quiesceBody c) s) := by
  refine takeCommand_acts fun hnode hfrom => ?_
  have howner : s.mc.owner = some c.source := hfrom.resolve_left (by simp)
  unfold quiesceBody withoutParams
  split
  case isFalse => exact finish_acts _ _ _ hnode (answered_reject _)
  simp only []
  split
  case h_1 hopened =>
    split
    case isTrue hquiet =>
      exact finish_acts _ _ _ hnode
        (answered_accept _ (.single (.regulate _ (by rw [hopened]; simp) (by simp) (fun _ => hquiet) (by simp))))
    case isFalse =>
      simp only [finish]
      rw [enterCache, if_pos (.inl howner)]
      exact .single (.drain ⟨c.source, c.sequence, 0x12, .pendingQuiesce⟩ (by rw [howner]; rfl) hnode rfl rfl)
  case h_2 => exact finish_acts _ _ _ hnode (answered_reject _)
  case h_3 => exact finish_acts _ _ _ hnode (answered_accept _ .refl)
  case h_4 => exact finish_acts _ _ _ hnode (answered_reject _)

theorem answered_resetTrafficBody (c : Command) : Answered s (resetTrafficBody c s) := by
  unfold resetTrafficBody
  split
  · exact answered_accept _ (resetTraffic_acts s)
  · exact answered_reject _

theorem answered_resetFullBody (c : Command) : Answered s (resetFullBody c s) := by
  unfold resetFullBody
  split
  · exact answered_accept _ (resetFull_acts s)
  · exact answered_reject _

/-! ### Timing, streams, domains -/

theorem rangeOf_bounds {lo hi : Nat} {b x : Byte} (h : rangeOf lo hi b = some x) : lo ≤ x.toNat ∧ x.toNat ≤ hi := by
  obtain ⟨hrange, rfl⟩ := rangeOf_eq_some_iff.1 h
  exact hrange

theorem setTimingOf_bounds {params : List Byte} {p : TickPeriod} {m u : Byte}
    (h : setTimingOf params = some (p, m, u)) : 1 ≤ m.toNat ∧ 1 ≤ u.toNat := by
  unfold setTimingOf at h
  split at h
  · split at h
    case h_1 hm hu =>
      obtain ⟨rfl, rfl, rfl⟩ : _ ∧ _ ∧ _ := by simpa using h
      exact ⟨(rangeOf_bounds hm).1, (rangeOf_bounds hu).1⟩
    case h_2 => simp at h
  · simp at h

theorem answered_setTimingBody (c : Command) : Answered s (setTimingBody c s) := by
  unfold setTimingBody
  split
  · exact answered_reject _
  case h_2 hargs =>
    split
    case isTrue hidle =>
      obtain ⟨hm, hu⟩ := setTimingOf_bounds hargs
      obtain ⟨-, hfree, -⟩ := (idle_iff s).1 hidle
      exact answered_accept _ (.single (.setTiming hm hu hfree))
    case isFalse => exact answered_reject _

theorem answered_bindStreamBody (c : Command) : Answered s (bindStreamBody c s) := by
  unfold bindStreamBody
  split
  · split
    · exact answered_accept _ (.single (.bind ..))
    · exact answered_reject _
  · exact answered_reject _

theorem setDomainOf_bounds {params : List Byte} {d : Domain} {r : DomainRec} (h : setDomainOf params = some (d, r)) :
    (1 ≤ r.quota.toNat ∧ r.quota.toNat ≤ 16) ∧ (1 ≤ r.limit.toNat ∧ r.limit.toNat ≤ 32) := by
  unfold setDomainOf at h
  split at h
  · split at h
    case h_1 hquota hlimit _ =>
      obtain ⟨rfl, rfl⟩ : _ ∧ _ := by simpa using h
      exact ⟨rangeOf_bounds hquota, rangeOf_bounds hlimit⟩
    case h_2 => simp at h
  · simp at h

theorem answered_setDomainBody (c : Command) : Answered s (setDomainBody c s) := by
  unfold setDomainBody
  split
  · exact answered_reject _
  case h_2 hargs =>
    obtain ⟨hquota, hlimit⟩ := setDomainOf_bounds hargs
    exact answered_accept _ (.single (.setDomain _ hquota hlimit))

/-! ### The Mapping Table -/

/-- R19, R20: an INSTALL whose checks have passed at its index. -/
theorem placeAt_acts {i : EntryIndex} {a : InstallArgs} (hfits : Fits s.ownNode a)
    (hfree : ¬ Clashes a (fun j => j = i) s)
    (hroom : a.pin = true → s.pinnedBut (fun j => j == i) < Config.maxPinned) : Answered s (placeAt i a s) := by
  have hplace : Acts s (s.placed i a) := .single (.place hfits hfree hroom)
  rw [placeAt_eq]
  refine ⟨_, _, rfl, ?_⟩
  unfold State.resolved
  split
  · exact hplace
  · split
    · exact retryRecord_eq_retried _ _ ▸ hplace.tail (.retry _)
    · exact hplace

theorem answered_installBody (c : Command) : Answered s (installBody c s) := by
  unfold installBody
  split
  · exact answered_reject _
  next a hargs =>
  split
  · exact answered_reject _
  next i hindex =>
  split
  · exact answered_reject _
  next hfits =>
  split
  · exact answered_reject _
  next hfree =>
  split
  · exact answered_reject _
  next hroom =>
  exact placeAt_acts ((bad_eq_false_iff ..).1 (by simpa using hfits))
    (fun h => hfree ((overlapLawBroken_iff (by simp)).2 h)) (pinLimitBroken_eq_false_iff.1 (by simpa using hroom))

/-- R17: the sweep changes hit flags only. -/
theorem sweep_entries {n : Nat} {i v : EntryIndex} {es es' : Vector Entry 64} (h : sweep n i es = some (v, es'))
    (j : EntryIndex) : es'[j] = es[j] ∨ es'[j] = { es[j] with hit := false } := by
  induction n generalizing i es with
  | zero => simp [sweep] at h
  | succ n ih =>
    unfold sweep at h
    split at h
    · exact ih h
    · split at h
      · have hset : (es.set i.val { es[i] with hit := false } i.isLt)[j] = es[j] ∨
            (es.set i.val { es[i] with hit := false } i.isLt)[j] = { es[j] with hit := false } := by
          by_cases hj : i = j
          · subst hj; right; simp
          · left; simp [Fin.val_ne_of_ne hj]
        obtain hkept | hcleared := ih h
        · rw [hkept]; exact hset
        · rw [hcleared]
          obtain heq | heq := hset
          · rw [heq]; exact .inr rfl
          · rw [heq]; exact .inr rfl
      · simp only [Option.some.injEq, Prod.mk.injEq] at h
        exact .inl (by rw [h.2])

/-- R16, R17: the choice of INSTALL ANY is an act that changes hit flags and the clock pointer only. -/
theorem chooseAny_cases {i : EntryIndex} {t : State} (h : s.chooseAny = some (i, t)) :
    ∃ es clock, t = { s with tu := { entries := es, clock := clock } } ∧
      ∀ j : EntryIndex, es[j] = s.tu.entries[j] ∨ es[j] = { s.tu.entries[j] with hit := false } := by
  unfold State.chooseAny at h
  split at h
  · simp only [Option.some.injEq, Prod.mk.injEq] at h
    exact ⟨s.tu.entries, s.tu.clock, h.2.symm, fun _ => .inl rfl⟩
  · split at h
    case h_1 hsweep =>
      simp only [Option.some.injEq, Prod.mk.injEq] at h
      exact ⟨_, _, h.2.symm, sweep_entries hsweep⟩
    case h_2 => simp at h

theorem pinnedBut_le (skip : EntryIndex → Bool) (s : State) : s.pinnedBut skip ≤ s.pinnedCount :=
  List.countP_mono_left (p := fun i => !skip i && s.tu.entries[i].valid && s.tu.entries[i].pinned)
    (q := fun i => !false && s.tu.entries[i].valid && s.tu.entries[i].pinned)
    fun i _ h => by simp only [Bool.and_eq_true] at h ⊢; exact ⟨⟨rfl, h.1.2⟩, h.2⟩

theorem answered_installAnyBody {c : Command} {out : State × Reply} (h : installAnyBody c s = some out) :
    Answered s out := by
  unfold installAnyBody at h
  split at h
  · exact Option.some.inj h ▸ answered_reject _
  next a hargs =>
  split at h
  · exact Option.some.inj h ▸ answered_reject _
  split at h
  · exact Option.some.inj h ▸ answered_reject _
  next hfits =>
  split at h
  · exact Option.some.inj h ▸ answered_reject _
  next hfree =>
  split at h
  · exact Option.some.inj h ▸ answered_reject _
  next hroom =>
  split at h
  case h_2 => simp at h
  next i t hchoose =>
  obtain ⟨es, clock, rfl, hes⟩ := chooseAny_cases hchoose
  have hsame (j : EntryIndex) : es[j].valid = s.tu.entries[j].valid ∧ es[j].pinned = s.tu.entries[j].pinned ∧
      es[j].scope = s.tu.entries[j].scope ∧ es[j].clientBase = s.tu.entries[j].clientBase ∧
      es[j].size = s.tu.entries[j].size := by
    obtain h | h := hes j <;> rw [h] <;> exact ⟨rfl, rfl, rfl, rfl, rfl⟩
  have hplace : Answered { s with tu := { entries := es, clock := clock } }
      (placeAt i a { s with tu := { entries := es, clock := clock } }) := by
    have hgood : a.bad s.ownNode = false := by simpa using hfits
    refine placeAt_acts ((bad_eq_false_iff ..).1 hgood) (fun hclash => hfree ?_) fun hpin => ?_
    · obtain ⟨j, -, hvalid, hscope, hlow, hhigh⟩ := hclash
      obtain ⟨h1, -, h3, h4, h5⟩ := hsame j
      simp only [h1, h3, h4, h5] at hvalid hscope hlow hhigh
      exact (overlapLawBroken_iff (P := fun _ => False) (by simp)).2 ⟨j, id, hvalid, hscope, hlow, hhigh⟩
    · have hcount : ({ s with tu := { entries := es, clock := clock } } : State).pinnedCount = s.pinnedCount := by
        simp only [State.pinnedCount, State.pinnedBut, (hsame _).1, (hsame _).2.1]
      have hlimit := pinLimitBroken_eq_false_iff.1 (by simpa using hroom) hpin
      exact (pinnedBut_le ..).trans_lt (hcount ▸ hlimit)
  obtain ⟨status, results, hnow, hacts⟩ := Option.some.inj h ▸ hplace
  exact ⟨status, results, hnow, (Acts.one (.sweep clock hes)).trans hacts⟩

theorem execInstallAny_acts {c : Command} {t : State} (h : execInstallAny c s = .next t) : Acts s t := by
  unfold execInstallAny at h
  split at h
  case h_1 henvelope => exact Host.Outcome.next.inj h ▸ envelope_acts henvelope
  case h_2 hnone =>
    obtain ⟨-, -, -, hnode, -, -⟩ := (envelope_none_iff ..).1 hnone
    split at h
    case h_1 hbody => exact Host.Outcome.next.inj h ▸ finish_acts _ _ _ hnode (answered_installAnyBody hbody)
    case h_2 => simp at h

theorem pinEntry_answered {i : EntryIndex} {on : Bool} (hvalid : s.tu.entries[i].valid = true) :
    Answered s (pinEntry i on s) := by
  unfold pinEntry
  split
  case isTrue hon =>
    split
    · exact answered_accept _ .refl
    split
    · exact answered_reject _
    case isFalse hroom =>
      exact answered_accept _ (.single (.pin (on := true) hvalid fun _ => by simpa using hroom))
  case isFalse => exact answered_accept _ (.single (.pin (on := false) hvalid (by simp)))

theorem answered_setPinBody (c : Command) : Answered s (setPinBody c s) := by
  unfold setPinBody
  split
  · split
    · split
      case isTrue hvalid => exact pinEntry_answered hvalid
      case isFalse => exact answered_reject _
    · exact answered_reject _
  · exact answered_reject _

/-! ### INVALIDATE and FENCE -/

/-- R119, R121: a capture, and its answer, which the cache takes. -/
theorem capture_acts {cmd : FenceCommand} {c : Command} (count : Nat) (before : State) (hnode : c.source ≠ s.ownNode)
    (hroom : s.fu.fences.length < Config.fenceCapacity) :
    Acts s (finish c.source c.sequence cmd.code before (capture cmd c count s)) := by
  unfold capture
  split
  · exact finish_acts _ _ _ hnode (answered_accept _ .refl)
  case isFalse hocc =>
    refine (Acts.one (.capture cmd c count hroom hocc)).trans (enterCache_acts _ _ _ hnode ⟨fun id hid => ?_, by simp⟩)
    refine ⟨_, List.mem_append_right _ List.mem_cons_self, ?_, rfl, rfl, rfl⟩
    exact Answer.pendingFence.inj hid

theorem invalidateWith_acts {c : Command} (hnode : c.source ≠ s.ownNode) (fence : Bool)
    (sel : EntryIndex → Entry → Bool) :
    Acts s (finish c.source c.sequence 0x33 s (invalidateWith c fence sel s)) := by
  have hinvalidate : Acts s (invalidate sel s) := .single (.invalidate sel)
  unfold invalidateWith
  simp only []
  split
  · split
    · exact finish_acts _ _ _ hnode (answered_reject _)
    case isFalse hroom =>
      exact hinvalidate.trans (capture_acts (cmd := .invalidate) _ _ hnode (Nat.lt_of_not_le hroom))
  · exact finish_acts _ _ _ hnode (answered_accept _ hinvalidate)

theorem invalidateIndexBody_acts {c : Command} (hnode : c.source ≠ s.ownNode) :
    Acts s (finish c.source c.sequence 0x33 s (invalidateIndexBody c s)) := by
  unfold invalidateIndexBody
  split
  · exact finish_acts _ _ _ hnode (answered_reject _)
  · split
    · exact finish_acts _ _ _ hnode (answered_reject _)
    · exact invalidateWith_acts hnode ..

theorem invalidateDomainBody_acts {c : Command} (hnode : c.source ≠ s.ownNode) :
    Acts s (finish c.source c.sequence 0x33 s (invalidateDomainBody c s)) := by
  unfold invalidateDomainBody
  split
  · exact finish_acts _ _ _ hnode (answered_reject _)
  · split
    · exact finish_acts _ _ _ hnode (answered_reject _)
    · exact invalidateWith_acts hnode ..

theorem invalidateRangeBody_acts {c : Command} (hnode : c.source ≠ s.ownNode) :
    Acts s (finish c.source c.sequence 0x33 s (invalidateRangeBody c s)) := by
  unfold invalidateRangeBody
  split
  · exact finish_acts _ _ _ hnode (answered_reject _)
  · split
    · exact finish_acts _ _ _ hnode (answered_reject _)
    · split
      · exact finish_acts _ _ _ hnode (answered_reject _)
      · exact invalidateWith_acts hnode ..

theorem invalidateUnpinnedBody_acts {c : Command} (hnode : c.source ≠ s.ownNode) :
    Acts s (finish c.source c.sequence 0x33 s (invalidateUnpinnedBody c s)) := by
  unfold invalidateUnpinnedBody
  split
  · exact finish_acts _ _ _ hnode (answered_reject _)
  · exact invalidateWith_acts hnode ..

theorem invalidateAllBody_acts {c : Command} (hnode : c.source ≠ s.ownNode) :
    Acts s (finish c.source c.sequence 0x33 s (invalidateAllBody c s)) := by
  unfold invalidateAllBody
  split
  · exact finish_acts _ _ _ hnode (answered_reject _)
  · exact invalidateWith_acts hnode ..

theorem fenceBody_acts {c : Command} (hnode : c.source ≠ s.ownNode) :
    Acts s (finish c.source c.sequence 0x34 s (fenceBody c s)) := by
  unfold fenceBody
  split
  · split
    · exact finish_acts _ _ _ hnode (answered_reject _)
    case isFalse hroom => exact capture_acts (cmd := .fence) _ _ hnode (by simpa using hroom)
  · exact finish_acts _ _ _ hnode (answered_reject _)

/-! ### RESOLVE and the reads -/

theorem answered_resolveRetryBody (c : Command) : Answered s (resolveRetryBody c s) := by
  unfold resolveRetryBody
  split
  · exact answered_reject _
  · split
    · exact answered_reject _
    · exact answered_accept _ (.single (.retry _))

theorem answered_resolveDenyBody (c : Command) : Answered s (resolveDenyBody c s) := by
  unfold resolveDenyBody
  split
  · exact answered_reject _
  · split
    · exact answered_reject _
    · exact answered_accept _ (denyRecord_acts _)

theorem answered_logReadBody (c : Command) : Answered s (logReadBody c s) := by
  unfold logReadBody
  split
  · split
    · exact answered_accept _ (.single (.readLog _))
    · exact answered_reject _
  · exact answered_reject _

theorem answered_readStreamBody (c : Command) : Answered s (readStreamBody c s) := by
  unfold readStreamBody
  split
  · split
    · exact answered_accept _ .refl
    · exact answered_reject _
  · exact answered_reject _

theorem answered_readDomainBody (c : Command) : Answered s (readDomainBody c s) := by
  unfold readDomainBody
  split
  · split
    · exact answered_accept _ .refl
    · exact answered_reject _
  · exact answered_reject _

theorem answered_readEntryBody (c : Command) : Answered s (readEntryBody c s) := by
  unfold readEntryBody
  split
  · split
    · exact answered_accept _ .refl
    · exact answered_reject _
  · exact answered_reject _

theorem answered_readMissesBody (c : Command) : Answered s (readMissesBody c s) := by
  unfold readMissesBody
  split
  · split
    · exact answered_accept _ .refl
    · exact answered_reject _
  · exact answered_reject _

theorem execUnknownCommand_acts {source sequence : Byte} {payload : List Byte} {check : Half} {t : State}
    (h : execUnknownCommand source sequence payload check s = .next t) : Acts s t := by
  have ht := Host.Outcome.next.inj h
  split at ht
  case h_1 henvelope => exact ht ▸ envelope_acts henvelope
  case h_2 hnone =>
    obtain ⟨-, -, -, hnode, -, -⟩ := (envelope_none_iff ..).1 hnone
    exact ht ▸ finish_acts _ _ _ hnode (answered_reject _)

end

/-! ### Every command -/

theorem arrive_acts {p : Port} {frame : List Byte} {s : State} (hup : s.ports[p].link = .up) :
    Acts s (arrive p frame s) := by
  unfold arrive
  split
  · exact logFault_acts _
  case isFalse hcredit =>
    simp only []
    split
    · have hback : (s.updPort p fun c => { c with credits := c.credits - 1 }).updPort p
          (fun c => { c with credits := c.credits + 1 }) = s := by
        have hsame : ({ s.ports[p] with credits := s.ports[p].credits - 1 + 1 } : PortState) = s.ports[p] := by
          rw [Nat.sub_add_cancel (Nat.one_le_iff_ne_zero.2 hcredit)]
        rw [updPort_updPort, State.updPort, Function.comp, hsame]
        simp
      rw [grantCredit_eq, hback]
      exact (sendClient_acts (List.mem_of_elem_eq_true rfl)).trans (logFault_acts _)
    · rw [updPort_updPort]
      exact .single (.arrive _ hup hcredit)

theorem execClientPacketArrival_acts (p : Port) (frame : List Byte) (s : State) :
    Acts s (if s.ports[p].link = .up then arrive p frame s else s) := by
  split
  case isTrue hup => exact arrive_acts hup
  case isFalse => exact .refl

theorem exec_headProcessing_acts {p : Port} {s t : State} (h : exec (.headProcessing p) s = .next t) : Acts s t := by
  have ht := Host.Outcome.next.inj h
  split at ht
  case h_1 hqueue _ => exact ht ▸ processHead_acts hqueue
  case h_2 => exact ht ▸ .refl

theorem exec_portStaleRelookup_acts {p : Port} {s t : State} (h : exec (.portStaleRelookup p) s = .next t) :
    Acts s t := by
  have ht := Host.Outcome.next.inj h
  split at ht
  case h_1 q hstaging =>
    split at ht
    · exact ht ▸ judgeAtPort_acts (.inr ⟨q, hstaging, rfl⟩)
    · exact ht ▸ .refl
  case h_2 => exact ht ▸ .refl

theorem exec_grant_acts {s t : State} (h : exec .grant s = .next t) : Acts s t := by
  have ht := Host.Outcome.next.inj h
  split at ht
  · exact ht ▸ .refl
  · split at ht
    case h_1 hfree =>
      split at ht
      case h_1 hstaged => exact ht ▸ grantTo_acts hstaged (lowestFree_free hfree)
      case h_2 => exact ht ▸ .refl
    case h_2 => exact ht ▸ .refl

theorem exec_upstreamTimerExpiry_acts {i : SlotIndex} {s t : State}
    (h : exec (.upstreamTimerExpiry i) s = .next t) : Acts s t := by
  have ht := Host.Outcome.next.inj h
  split at ht
  case isTrue hdue => exact ht ▸ expireSlot_acts hdue.1
  case isFalse => exact ht ▸ .refl

theorem exec_replayProcessing_acts {s t : State} (h : exec .replayProcessing s = .next t) : Acts s t := by
  have ht := Host.Outcome.next.inj h
  split at ht
  case h_1 head rest _ hqueue => exact ht ▸ judgeReplay_acts (.inl ⟨head, rest, hqueue, rfl, rfl⟩)
  case h_2 => exact ht ▸ .refl

theorem exec_rpStaleRelookup_acts {s t : State} (h : exec .rpStaleRelookup s = .next t) : Acts s t := by
  have ht := Host.Outcome.next.inj h
  split at ht
  case h_1 q hrp =>
    split at ht
    · exact ht ▸ judgeReplay_acts (.inr ⟨q, hrp, rfl, rfl⟩)
    · exact ht ▸ .refl
  case h_2 => exact ht ▸ .refl

/-- A fault of the fabric port, where the link is UP. -/
theorem fabricFault_acts (f : FaultRec) (s : State) : Acts s (if s.fabric = .down then s else logFault f s) := by
  split
  · exact .refl
  · exact logFault_acts f

theorem exec_startupClearingDone_acts {s t : State} (h : exec .startupClearingDone s = .next t) : Acts s t := by
  have ht := Host.Outcome.next.inj h
  split at ht
  · exact ht ▸ .single .run
  · exact ht ▸ .refl

/-- A link event that comes about, and one that does not. -/
theorem linkAct_ite {P : Prop} [Decidable P] {s t u : State} (h : P → LinkAct s u) (ht : (if P then u else s) = t) :
    LinkAct s t ∨ Acts s t := by
  subst ht
  split
  case isTrue hP => exact .inl (h hP)
  case isFalse => exact .inr .refl

theorem acts_of_next {s x t : State} (hx : Acts s x) (h : (Host.Outcome.next x : Result) = .next t) : Acts s t :=
  Host.Outcome.next.inj h ▸ hx

/-- What a command can do: a link event by itself, a run of acts, or, a tick, the run that settles what is due and then
the tick of the timers. -/
theorem exec_cases {c : Instr} {s t : State} (h : exec c s = .next t) :
    (LinkAct s t ∨ Acts s t) ∨ (c = .tick ∧ s.phase = .running ∧ t = tickAll (settle s)) := by
  cases c with
  | tick =>
    have ht := Host.Outcome.next.inj h
    split at ht
    case isTrue hrun => exact .inr ⟨rfl, hrun, ht.symm⟩
    case isFalse => exact .inl (.inr (ht ▸ .refl))
  | powerOn strap => exact .inl (.inl (Host.Outcome.next.inj h ▸ .startUp ..))
  | pinResetAssert =>
    have ht := Host.Outcome.next.inj h
    split at ht
    · exact .inl (.inr (ht ▸ .refl))
    · exact .inl (.inl (ht ▸ .assertReset))
  | pinResetRelease strap =>
    have ht := Host.Outcome.next.inj h
    split at ht
    · exact .inl (.inl (ht ▸ .startUp ..))
    · exact .inl (.inr (ht ▸ .refl))
  | clientLinkUp p => exact .inl (linkAct_ite (fun hup => .portUp hup.2) (Host.Outcome.next.inj h))
  | clientLinkDown p => exact .inl (linkAct_ite .portDown (Host.Outcome.next.inj h))
  | startupClearingDone => exact .inl (.inr (exec_startupClearingDone_acts h))
  | fabricLinkUp => exact .inl (linkAct_ite (fun _ => .fabricUp) (Host.Outcome.next.inj h))
  | fabricLinkLoss => exact .inl (linkAct_ite .fabricLost (Host.Outcome.next.inj h))
  | clientPacketArrival p frame => exact .inl (.inr (acts_of_next (execClientPacketArrival_acts p frame s) h))
  | headProcessing p => exact .inl (.inr (exec_headProcessing_acts h))
  | portStaleRelookup p => exact .inl (.inr (exec_portStaleRelookup_acts h))
  | grant => exact .inl (.inr (exec_grant_acts h))
  | readData r => exact .inl (.inr (acts_of_next (respond_acts onReadData_ends r) h))
  | writeAck r => exact .inl (.inr (acts_of_next (respond_acts onWriteAck_ends r) h))
  | fabricError r => exact .inl (.inr (acts_of_next (respond_acts onFabricError_ends r) h))
  | fabricBadFrame frame => exact .inl (.inr (acts_of_next (fabricFault_acts _ s) h))
  | foreignPacket destination => exact .inl (.inr (acts_of_next .refl h))
  | unsolicitedPacket source kind => exact .inl (.inr (acts_of_next (fabricFault_acts _ s) h))
  | upstreamTimerExpiry slot => exact .inl (.inr (exec_upstreamTimerExpiry_acts h))
  | missTimerExpiry ticket => exact .inl (.inr (acts_of_next (expireTicket_acts ticket) h))
  | replayProcessing => exact .inl (.inr (exec_replayProcessing_acts h))
  | rpStaleRelookup => exact .inl (.inr (exec_rpStaleRelookup_acts h))
  | fenceCompletion => exact .inl (.inr (acts_of_next completeOldestFence_acts h))
  | drainCompletion => exact .inl (.inr (acts_of_next endDrain_acts h))
  | claim c => exact .inl (.inr (acts_of_next (takeCommand_any_acts fun hnode => answered_claimBody hnode) h))
  | relinquish c => exact .inl (.inr (acts_of_next (takeCommand_owner_acts fun _ => answered_relinquishBody c) h))
  | status c => exact .inl (.inr (acts_of_next (takeCommand_any_acts fun _ => answered_withoutParams (answered_accept _ .refl)) h))
  | openCmd c => exact .inl (.inr (acts_of_next (takeCommand_owner_acts fun howner => answered_openBody c howner) h))
  | close c => exact .inl (.inr (acts_of_next (takeCommand_owner_acts fun _ => answered_closeBody c) h))
  | quiesce c => exact .inl (.inr (acts_of_next (execQuiesce_acts c) h))
  | release c => exact .inl (.inr (acts_of_next (takeCommand_owner_acts fun howner => answered_releaseBody c howner) h))
  | resetTraffic c => exact .inl (.inr (acts_of_next (takeCommand_owner_acts fun _ => answered_resetTrafficBody c) h))
  | resetFull c => exact .inl (.inr (acts_of_next (takeCommand_owner_acts fun _ => answered_resetFullBody c) h))
  | setTiming c => exact .inl (.inr (acts_of_next (takeCommand_owner_acts fun _ => answered_setTimingBody c) h))
  | bindStream c => exact .inl (.inr (acts_of_next (takeCommand_owner_acts fun _ => answered_bindStreamBody c) h))
  | readStream c => exact .inl (.inr (acts_of_next (takeCommand_owner_acts fun _ => answered_readStreamBody c) h))
  | setDomain c => exact .inl (.inr (acts_of_next (takeCommand_owner_acts fun _ => answered_setDomainBody c) h))
  | readDomain c => exact .inl (.inr (acts_of_next (takeCommand_owner_acts fun _ => answered_readDomainBody c) h))
  | install c => exact .inl (.inr (acts_of_next (takeCommand_owner_acts fun _ => answered_installBody c) h))
  | installAny c => exact .inl (.inr (execInstallAny_acts h))
  | setPin c => exact .inl (.inr (acts_of_next (takeCommand_owner_acts fun _ => answered_setPinBody c) h))
  | readEntry c => exact .inl (.inr (acts_of_next (takeCommand_owner_acts fun _ => answered_readEntryBody c) h))
  | invalidateIndex c => exact .inl (.inr (acts_of_next (takeCommand_acts fun hnode _ => invalidateIndexBody_acts hnode) h))
  | invalidateDomain c => exact .inl (.inr (acts_of_next (takeCommand_acts fun hnode _ => invalidateDomainBody_acts hnode) h))
  | invalidateRange c => exact .inl (.inr (acts_of_next (takeCommand_acts fun hnode _ => invalidateRangeBody_acts hnode) h))
  | invalidateUnpinned c => exact .inl (.inr (acts_of_next (takeCommand_acts fun hnode _ => invalidateUnpinnedBody_acts hnode) h))
  | invalidateAll c => exact .inl (.inr (acts_of_next (takeCommand_acts fun hnode _ => invalidateAllBody_acts hnode) h))
  | fence c => exact .inl (.inr (acts_of_next (takeCommand_acts fun hnode _ => fenceBody_acts hnode) h))
  | resolveRetry c => exact .inl (.inr (acts_of_next (takeCommand_owner_acts fun _ => answered_resolveRetryBody c) h))
  | resolveDeny c => exact .inl (.inr (acts_of_next (takeCommand_owner_acts fun _ => answered_resolveDenyBody c) h))
  | readMisses c => exact .inl (.inr (acts_of_next (takeCommand_owner_acts fun _ => answered_readMissesBody c) h))
  | logRead c => exact .inl (.inr (acts_of_next (takeCommand_owner_acts fun _ => answered_logReadBody c) h))
  | unknownCommand source sequence payload check => exact .inl (.inr (execUnknownCommand_acts h))

/-- A law that link events, acts, a tick and a clock cycle keep, every step keeps. -/
theorem step_keeps {P : State → Prop} (hpending : ∀ s l, P s → P { s with pending := l })
    (hlink : ∀ s t, LinkAct s t → P s → P t) (hact : ∀ s t, Act s t → P s → P t) (htick : ∀ s, P s → P (tickAll s))
    (hcycle : ∀ s, s.tb.prescale + 1 < s.tb.period.prescale → P s →
      P { s with tb := { s.tb with prescale := s.tb.prescale + 1 } })
    {s t : State} (hs : P s) (h : step s = .next t) : P t := by
  have hexec {c : Instr} {u : State} (hu : P u) (h : exec c u = .next t) : P t := by
    obtain (hl | ha) | ⟨-, -, rfl⟩ := exec_cases h
    · exact hlink _ _ hl hu
    · exact ha.keep hact hu
    · exact htick _ (settle_acts.keep hact hu)
  unfold step at h
  split at h
  · exact hexec (hpending _ _ hs) h
  · split at h
    · exact hexec hs h
    · obtain rfl := Host.Outcome.next.inj h
      unfold refClock
      split
      · split
        · exact htick _ hs
        case isFalse hlow => exact hcycle _ (not_le.1 hlow) hs
      · exact hs

end Sys2Proof.Machine
end

section
/-! PROOFS. The model's operations in the words of the statements: what is told to a client, refused, reported, freed;
and the teardown of fabric link loss (R65, R87, R113, R128, R151, R167). -/

namespace Sys2Proof.Machine

section
variable {s : State}

/-! ### What is sent -/

theorem sendClient_eq_told (p : Port) (k : ClientPacket) (s : State) : sendClient p k s = s.told p k := by
  unfold sendClient State.told
  split <;> rfl

theorem told_of_up {p : Port} (hup : s.ports[p].link = .up) (k : ClientPacket) :
    s.told p k = { s with sent := s.sent ++ [.client p k] } := by
  rw [State.told, if_pos hup]

/-- "Refused CODE" (00, section 5), in the words of the statements. -/
theorem endRequest_eq_refused (code : RefusalCode) (r : Request) (s : State) :
    endRequest code r s = s.refused code r := by
  unfold endRequest State.refused
  rw [sendClient_eq_told]
  cases r.kind <;> rfl

/-- What refusing a request adds to what was sent. -/
theorem refused_eq (code : RefusalCode) (r : Request) (s : State) :
    s.refused code r = { s with sent := s.sent ++ s.refusal code r } := by
  unfold State.refused State.refusal State.told
  by_cases hposted : r.kind = .postedWrite
  · simp [hposted]
  · by_cases hup : s.ports[r.port].link = .up
    · simp only [hposted, hup, if_true, if_false, ne_eq, not_false_eq_true, and_self]
    · simp only [hposted, hup, if_false, and_false, List.append_nil]

theorem endRequest_eq (code : RefusalCode) (r : Request) (s : State) :
    endRequest code r s = { s with sent := s.sent ++ s.refusal code r } :=
  (endRequest_eq_refused ..).trans (refused_eq ..)

/-- What a refusal sends depends on the state of the port's link only. -/
theorem refusal_congr {t : State} (hlink : ∀ p : Port, t.ports[p].link = s.ports[p].link) (code : RefusalCode)
    (r : Request) : t.refusal code r = s.refusal code r := by
  unfold State.refusal
  rw [hlink]

/-- R42: a refusal with a code that the report flag reports. -/
theorem refuse_reported {code : RefusalCode} (hcode : code.reported = true) (d : Domain) (r : Request) (s : State) :
    refuse code d r s = (s.refused code r).reported code d r := by
  rw [refuse, endRequest_eq_refused, reportRefusal, hcode, Bool.and_true]
  rfl

/-- R42: a refusal with a code that the report flag does not report. -/
theorem refuse_unreported {code : RefusalCode} (hcode : code.reported = false) (d : Domain) (r : Request) (s : State) :
    refuse code d r s = s.refused code r := by
  rw [refuse, endRequest_eq_refused, reportRefusal, hcode, Bool.and_false]
  rfl

/-- R78: the refusal of a slot's request, in the words of the statements. -/
theorem refuseSlot_eq_ended (sl : Slot) (code : RefusalCode) (s : State) : refuseSlot sl code s = s.ended code sl := by
  unfold refuseSlot completeSlot State.ended State.refused
  rw [sendClient_eq_told]
  cases hkind : sl.kind <;> cases horphan : sl.orphan <;> simp [ReqKind.posted, Slot.request, hkind] <;> rfl

theorem ended_eq (code : RefusalCode) (sl : Slot) (s : State) :
    s.ended code sl = { s with sent := s.sent ++ if sl.orphan = true then [] else s.refusal code sl.request } := by
  unfold State.ended
  split
  · simp
  · exact refused_eq ..

/-- R81: the freed slot, in the words of the statements. -/
theorem freeSlot_eq_freed (i : SlotIndex) (s : State) : freeSlot i s = s.freed i := by
  simp only [freeSlot, State.freed, State.updSlot, bne, Bool.beq_eq_decide_eq, ne_eq, decide_not]

/-- R172 to R174: with the fabric link DOWN a fault is taken by the log and no notice leaves. -/
theorem logFault_of_down (hdown : s.fabric = .down) (f : FaultRec) :
    logFault f s = { s with fl := s.fl.after f } := by
  have hsilent (l : List Byte) (u : State) (hu : u.fabric = .down) : sendNotice l u = u := by
    unfold sendNotice
    split
    · rfl
    · rw [if_neg (by simp [hu])]
  rw [logFault_eq]
  split
  · exact hsilent _ _ hdown
  · rfl

/-! ### The miss unit -/

theorem foldl_endRequest (code : RefusalCode) (l : List HeldReq) (s : State) :
    l.foldl (fun s h => endRequest code h.req s) s =
      { s with sent := s.sent ++ l.flatMap fun h => s.refusal code h.req } := by
  induction l generalizing s with
  | nil => simp
  | cons h l ih =>
    rw [List.foldl_cons, ih, endRequest_eq, List.flatMap_cons, List.append_assoc]
    rfl

theorem heldOf_eq_heldUnder (t : Half) (s : State) : s.heldOf t = s.heldUnder t := by
  simp only [State.heldOf, State.heldUnder, Bool.beq_eq_decide_eq]

theorem replayQueue_eq_replays (s : State) : s.replayQueue = s.replays := by
  simp only [State.replayQueue, State.replays, Bool.beq_eq_decide_eq]

/-- R112, R113: what the end of the miss unit sends and leaves. -/
theorem endMissUnit_eq (code : RefusalCode) (s : State) :
    endMissUnit code s = { s with
      sent := s.sent ++ s.missRefusals code, mu := { s.mu with records := [], held := [], rp := none } } := by
  rw [endMissUnit, foldl_endRequest]
  simp only [replayQueue_eq_replays, heldOf_eq_heldUnder, State.missRefusals]

/-! ### Slots and ports at fabric link loss -/

/-- A table with the entries of a list of indices changed. -/
def changedAt {α : Type} {n : Nat} (l : List (Fin n)) (f : α → α) (v : Vector α n) : Vector α n :=
  Vector.ofFn fun i => if i ∈ l then f v[i] else v[i]

theorem getElem_changedAt {α : Type} {n : Nat} (l : List (Fin n)) (f : α → α) (v : Vector α n) (i : Fin n) :
    (changedAt l f v)[i] = if i ∈ l then f v[i] else v[i] := by
  simp [changedAt]

theorem changedAt_nil {α : Type} {n : Nat} (f : α → α) (v : Vector α n) : changedAt [] f v = v := by
  ext i hi
  simp [changedAt]

theorem changedAt_cons {α : Type} {n : Nat} {i : Fin n} {l : List (Fin n)} (hi : i ∉ l) (f : α → α) (v : Vector α n) :
    changedAt l f (v.set i.val (f v[i]) i.isLt) = changedAt (i :: l) f v := by
  ext j hj
  by_cases h : i.val = j
  · subst h
    simp [changedAt, hi]
  · have hne : (⟨j, hj⟩ : Fin n) ≠ i := fun e => h (congrArg Fin.val e).symm
    simp [changedAt, h, hne]

/-- R87, R171: what the Fault Log takes for a slot at fabric link loss. -/
def State.slotLoss (i : SlotIndex) (s : State) : List FaultRec :=
  if s.fu.ort[i].occupied = true ∧ s.fu.ort[i].kind = .postedWrite then [postedFailed s.fu.ort[i] 0x0101] else []

/-- R81: a slot freed while the Fence List is empty. -/
theorem freeSlot_of_noFences (hfences : s.fu.fences = []) (i : SlotIndex) :
    freeSlot i s = { s with fu := { s.fu with ort := s.fu.ort.set i.val s.fu.ort[i].freed i.isLt } } := by
  have hmap : (s.fu.fences.map fun f => { f with captured := f.captured.filter fun j => j != i }) = s.fu.fences := by
    rw [hfences, List.map_nil]
  simp only [freeSlot, State.updSlot, hmap]
  rfl

/-- R87: a slot at fabric link loss, the Fence List being empty. -/
theorem loseSlot_of_down (hdown : s.fabric = .down) (hfences : s.fu.fences = []) (i : SlotIndex) :
    loseSlot s i = { s with
      fu := { s.fu with ort := s.fu.ort.set i.val s.fu.ort[i].freed i.isLt }
      sent := s.sent ++ s.slotRefusal .upstreamLost i
      fl := (s.slotLoss i).foldl FaultLog.after s.fl } := by
  by_cases hocc : s.fu.ort[i].occupied = true
  case neg =>
    have hfree : s.fu.ort[i].occupied = false := by simpa using hocc
    have hsame : s.fu.ort.set i.val s.fu.ort[i].freed i.isLt = s.fu.ort := by
      rw [Slot.freed_of_free hfree]
      simp
    have hloss : s.slotLoss i = [] := if_neg fun h => hocc h.1
    have hrefusal : s.slotRefusal .upstreamLost i = [] := if_neg fun h => hocc h.1
    rw [loseSlot, if_neg hocc, hsame, hloss, hrefusal, List.append_nil]
    rfl
  have hrefuse : refuseSlot s.fu.ort[i] .upstreamLost s =
      { s with sent := s.sent ++ s.slotRefusal .upstreamLost i } := by
    rw [refuseSlot_eq_ended, ended_eq, State.slotRefusal, hocc]
    cases s.fu.ort[i].orphan <;> rfl
  have hpart (u : State) (hu : u.fu = s.fu) : freeSlot i u =
      { u with fu := { s.fu with ort := s.fu.ort.set i.val s.fu.ort[i].freed i.isLt } } := by
    rw [freeSlot_of_noFences (by rw [hu]; exact hfences)]
    simp only [hu]
  rw [loseSlot, if_pos hocc]
  cases hkind : s.fu.ort[i].kind with
  | read =>
    have hloss : s.slotLoss i = [] := if_neg fun h => by rw [hkind] at h; exact nomatch h.2
    rw [hloss]
    exact (congrArg (freeSlot i) hrefuse).trans (hpart _ rfl)
  | write =>
    have hloss : s.slotLoss i = [] := if_neg fun h => by rw [hkind] at h; exact nomatch h.2
    rw [hloss]
    exact (congrArg (freeSlot i) hrefuse).trans (hpart _ rfl)
  | postedWrite =>
    have hloss : s.slotLoss i = [postedFailed s.fu.ort[i] 0x0101] := if_pos ⟨hocc, hkind⟩
    have hrefusal : s.slotRefusal .upstreamLost i = [] := by
      have hsilent : s.refusal .upstreamLost s.fu.ort[i].request = [] := if_neg fun h => h.1 hkind
      rw [State.slotRefusal, hsilent, ite_self]
    rw [hrefusal, List.append_nil, hloss]
    exact (congrArg (freeSlot i) (logFault_of_down hdown _)).trans (hpart _ rfl)

theorem foldl_loseSlot {l : List SlotIndex} (hl : l.Nodup) (hdown : s.fabric = .down) (hfences : s.fu.fences = []) :
    l.foldl loseSlot s = { s with
      fu := { s.fu with ort := changedAt l Slot.freed s.fu.ort }
      sent := s.sent ++ l.flatMap fun i => s.slotRefusal .upstreamLost i
      fl := (l.flatMap fun i => s.slotLoss i).foldl FaultLog.after s.fl } := by
  induction l generalizing s with
  | nil => simp [changedAt_nil]
  | cons i l ih =>
    obtain ⟨hi, hl⟩ := List.nodup_cons.1 hl
    have hort (j : SlotIndex) (hj : j ∈ l) :
        (s.fu.ort.set i.val s.fu.ort[i].freed i.isLt)[j] = s.fu.ort[j] := by
      have hne : i.val ≠ j.val := fun e => hi (Fin.ext e ▸ hj)
      simp [hne]
    rw [List.foldl_cons, loseSlot_of_down hdown hfences]
    refine (ih (by exact hl) (by exact hdown) (by exact hfences)).trans ?_
    simp only [changedAt_cons hi, List.flatMap_cons, List.foldl_append, List.append_assoc]
    have hsends : (l.flatMap fun j => State.slotRefusal .upstreamLost j { s with
        fu := { s.fu with ort := s.fu.ort.set i.val s.fu.ort[i].freed i.isLt }
        sent := s.sent ++ s.slotRefusal .upstreamLost i
        fl := (s.slotLoss i).foldl FaultLog.after s.fl }) = l.flatMap fun j => s.slotRefusal .upstreamLost j :=
      List.flatMap_congr fun j hj => by
        simp only [State.slotRefusal, hort j hj]
        rfl
    have hlosses : (l.flatMap fun j => State.slotLoss j { s with
        fu := { s.fu with ort := s.fu.ort.set i.val s.fu.ort[i].freed i.isLt }
        sent := s.sent ++ s.slotRefusal .upstreamLost i
        fl := (s.slotLoss i).foldl FaultLog.after s.fl }) = l.flatMap fun j => s.slotLoss j :=
      List.flatMap_congr fun j hj => by simp only [State.slotLoss, hort j hj]
    rw [hsends, hlosses]

/-- R65: what fabric link loss leaves of a port. -/
def PortState.afterLoss (c : PortState) : PortState := if c.link = .up then { c with staging := none } else c

theorem stagedRefusal_eq (code : RefusalCode) (p : Port) (s : State) :
    s.stagedRefusal code p = if s.ports[p].link = .up then
      match s.ports[p].staging with
      | some q => s.refusal code q.req
      | none => [] else [] := by
  unfold State.stagedRefusal
  cases s.ports[p].link <;> cases s.ports[p].staging <;> rfl

/-- R64, R65: the staged request of an UP port ends. -/
theorem endStaged_of_up {p : Port} (hup : s.ports[p].link = .up) (code : RefusalCode) :
    endStaged code p s = { s.setStaging p none with sent := s.sent ++ s.stagedRefusal code p } := by
  rw [stagedRefusal_eq, if_pos hup, endStaged_eq]
  cases hstaging : s.ports[p].staging with
  | none => simp only [List.append_nil, State.setStaging, State.updPort]
  | some q =>
    simp only [endRequest_eq]
    rw [refusal_congr (s := s) (t := s.setStaging p none) fun q' => setStaging_link p q' none s]
    rfl

theorem losePort_eq (s : State) (p : Port) :
    losePort s p = { s with
      ports := s.ports.set p.val s.ports[p].afterLoss p.isLt
      sent := s.sent ++ s.stagedRefusal .upstreamLost p } := by
  by_cases hup : s.ports[p].link = .up
  case neg =>
    rw [losePort, if_neg hup, PortState.afterLoss, if_neg hup, stagedRefusal_eq, if_neg hup]
    simp
  rw [losePort, if_pos hup, PortState.afterLoss, if_pos hup, endStaged_of_up hup]
  rfl

/-- A sweep over the ports that treats each by itself and keeps the links: every port comes out treated once, and what is
sent for it is what its state at the start calls for. -/
theorem foldl_portSweep {f : State → Port → State} {g : PortState → PortState} {sends : Port → State → List Sent}
    (hf : ∀ s p, f s p = { s with
      ports := s.ports.set p.val (g s.ports[p]) p.isLt, sent := s.sent ++ sends p s })
    (hlink : ∀ c : PortState, (g c).link = c.link)
    (hsends : ∀ (s t : State) (p : Port), (∀ q : Port, t.ports[q].link = s.ports[q].link) → t.ports[p] = s.ports[p] →
      sends p t = sends p s) {l : List Port} (hl : l.Nodup) (s : State) :
    l.foldl f s = { s with
      ports := changedAt l g s.ports, sent := s.sent ++ l.flatMap fun p => sends p s } := by
  induction l generalizing s with
  | nil => simp [changedAt_nil]
  | cons p l ih =>
    obtain ⟨hp, hl⟩ := List.nodup_cons.1 hl
    have hlinks (q : Port) : (s.ports.set p.val (g s.ports[p]) p.isLt)[q].link = s.ports[q].link :=
      updPort_link (f := g) hlink p q s
    have hport (q : Port) (hq : q ∈ l) : (s.ports.set p.val (g s.ports[p]) p.isLt)[q] = s.ports[q] := by
      have hne : p.val ≠ q.val := fun e => hp (Fin.ext e ▸ hq)
      simp [hne]
    have hlater {t : State} (ht : t.ports = s.ports.set p.val (g s.ports[p]) p.isLt) :
        (l.flatMap fun q => sends q t) = l.flatMap fun q => sends q s :=
      List.flatMap_congr fun q hq => hsends s t q (by rw [ht]; exact hlinks) (by simp only [ht, hport q hq])
    rw [List.foldl_cons, hf, ih hl, hlater rfl]
    simp only [changedAt_cons hp, List.flatMap_cons, List.append_assoc]

theorem stagedRefusal_congr {t : State} (code : RefusalCode) {p : Port}
    (hlink : ∀ q : Port, t.ports[q].link = s.ports[q].link) (hport : t.ports[p] = s.ports[p]) :
    t.stagedRefusal code p = s.stagedRefusal code p := by
  simp only [stagedRefusal_eq, hport, refusal_congr hlink]

theorem foldl_losePort {l : List Port} (hl : l.Nodup) (s : State) :
    l.foldl losePort s = { s with
      ports := changedAt l PortState.afterLoss s.ports
      sent := s.sent ++ l.flatMap fun p => s.stagedRefusal .upstreamLost p } :=
  foldl_portSweep losePort_eq (fun c => by unfold PortState.afterLoss; split <;> rfl)
    (fun _ _ _ hlink hport => stagedRefusal_congr .upstreamLost hlink hport) hl s

end

/-! ### The whole teardown -/

theorem changedAt_finRange {α : Type} {n : Nat} (f : α → α) (v : Vector α n) :
    changedAt (List.finRange n) f v = mapTable f v := by
  ext i hi
  simp [changedAt]

/-- R167 step 1: the link is DOWN, admission CLOSED, and the deferred replies are dropped. -/
def State.lossBegun (s : State) : State :=
  { s with
    fabric := .down
    mc := { s.mc with admission := .closed, quiesce := none }
    fu := { s.fu with fences := [] } }

/-- R167 step 5: the owner and the replay cache are cleared. -/
def State.lossEnded (s : State) : State := { s with mc := { s.mc with owner := none, cache := none } }

theorem fabricLost_lossBegun (s : State) : fabricLost s =
    (endMissUnit .upstreamLost ((List.finRange 4).foldl losePort ((List.finRange 32).foldl loseSlot s.lossBegun))).lossEnded := by
  simp only [fabricLost, State.lossBegun, State.lossEnded]

/-- R167: what fabric link loss leaves and sends. -/
theorem fabricLost_eq (s : State) :
    fabricLost s = { s with
      fabric := .down
      ports := mapTable PortState.afterLoss s.ports
      fu := { s.fu with ort := mapTable Slot.freed s.fu.ort, fences := [] }
      mu := { s.mu with records := [], held := [], rp := none }
      mc := { s.mc with admission := .closed, owner := none, cache := none, quiesce := none }
      sent := s.sent ++ s.lossSends
      fl := ((List.finRange 32).flatMap fun i => s.slotLoss i).foldl FaultLog.after s.fl } := by
  have hmiss {t : State} (hports : t.ports = mapTable PortState.afterLoss s.ports) (hmu : t.mu = s.mu) :
      t.missRefusals .upstreamLost = s.missRefusals .upstreamLost := by
    have hrefusal := refusal_congr (s := s) (t := t) (fun p => by
      rw [hports]
      simp only [Fin.getElem_fin, getElem_mapTable, PortState.afterLoss]
      split <;> rfl) .upstreamLost
    simp only [State.missRefusals, State.replays, State.heldUnder, hmu, hrefusal]
  have hslots := foldl_loseSlot (s := s.lossBegun) (List.nodup_finRange 32) rfl rfl
  simp only [changedAt_finRange] at hslots
  rw [fabricLost_lossBegun, hslots, foldl_losePort (List.nodup_finRange 4), endMissUnit_eq, changedAt_finRange,
    hmiss (by rfl) (by rfl), List.append_assoc, List.append_assoc]
  simp only [State.lossSends, List.append_assoc]
  rfl

theorem exec_fabricLinkLoss_of_up {s : State} (hup : s.fabric = .up) :
    exec .fabricLinkLoss s = .next (fabricLost s) := by
  show execFabricLinkLoss s = _
  rw [execFabricLinkLoss, if_pos hup]

/-- R87: the posted requests of the ORT, slot by slot. -/
theorem flatMap_slotLoss (s : State) :
    ((List.finRange 32).flatMap fun i => s.slotLoss i) =
      (s.occupiedSlots.filter fun i => s.fu.ort[i].kind = .postedWrite).map fun i => postedFailed s.fu.ort[i] 0x0101 := by
  unfold State.occupiedSlots State.slotLoss
  rw [List.filter_filter]
  induction List.finRange 32 with
  | nil => rfl
  | cons i l ih =>
    rw [List.flatMap_cons, ih, List.filter_cons]
    by_cases h : s.fu.ort[i].occupied = true ∧ s.fu.ort[i].kind = .postedWrite
    · rw [if_pos h, if_pos (Bool.and_eq_true_iff.2 ⟨decide_eq_true h.2, h.1⟩)]
      rfl
    · rw [if_neg h, if_neg fun hboth => h ?_]
      · rfl
      · obtain ⟨hkind, hocc⟩ := Bool.and_eq_true_iff.1 hboth
        exact ⟨hocc, of_decide_eq_true hkind⟩

/-- Settles O4, by what fabric link loss leaves and sends, written as one state. -/
theorem fabricLinkLossTeardown : Obligations.FabricLinkLossTeardown := by
  intro s hup
  refine ⟨fabricLost s, exec_fabricLinkLoss_of_up hup, ?_⟩
  rw [fabricLost_eq, flatMap_slotLoss]
  refine ⟨rfl, rfl, rfl, fun i => ?_, rfl, rfl, fun p => ?_, rfl, rfl, rfl, rfl, rfl, rfl, rfl, rfl, rfl⟩
  · simp only [Fin.getElem_fin, getElem_mapTable]
    rfl
  · simp only [Fin.getElem_fin, getElem_mapTable]
    rfl

end Sys2Proof.Machine
end

section
/-! PROOFS. The invariants of the Fault Log, the domain records, the Timebase, the credits and the Mapping Table (R1, R3,
R13, R32, R45, R82, R173), over the acts of the part. -/

namespace Sys2Proof.Machine

/-- R154, R157: all that the answer to a pending QUIESCE writes. -/
theorem unquiesced_eq (status : ReplyStatus) (s : State) :
    s.unquiesced status = { s with mc := { s.mc with
      quiesce := none
      cache := if s.mc.quiesce = none then s.mc.cache
        else s.mc.cache.map (CacheEntry.settled .pendingQuiesce status []) } } := by
  unfold State.unquiesced
  cases hquiesce : s.mc.quiesce with
  | none =>
    have hsame : ({ s.mc with quiesce := none } : ManageCtl) = s.mc := by rw [← hquiesce]
    rw [if_pos rfl, hsame]
  | some q => rfl

/-! ### The Fault Log, the domain records, the Timebase -/

/-- R173, R178: the law of the Fault Log, on the log alone. -/
abbrev FaultLog.Law (log : FaultLog) : Prop :=
  log.records.length ≤ Config.logCapacity ∧ (log.overflow ≠ 0 → log.records ≠ [])

theorem FaultLog.Law.after {log : FaultLog} (h : log.Law) (f : FaultRec) : (log.after f).Law := by
  obtain ⟨hlength, hoverflow⟩ := h
  unfold FaultLog.after
  split
  case isTrue hroom =>
    refine ⟨?_, fun _ => by simp⟩
    simp only [List.length_append, List.length_singleton, Config.logCapacity]
    omega
  case isFalse hfull =>
    refine ⟨hlength, fun _ (hempty : log.records = []) => ?_⟩
    simp [hempty] at hfull

theorem FaultLog.Law.foldl_after {log : FaultLog} (h : log.Law) (l : List FaultRec) : (l.foldl FaultLog.after log).Law := by
  induction l generalizing log with
  | nil => exact h
  | cons f l ih => exact ih (h.after f)

/-- The laws of the Fault Log, the domain records and the Timebase together (R173, R32, R82). -/
abbrev State.RecordsSound (s : State) : Prop := s.LogLaw ∧ s.DomainLaw ∧ s.TimingLaw

theorem domainLaw_cleared (d : Domain) :
    (1 ≤ DomainUnit.cleared.domains[d].quota.toNat ∧ DomainUnit.cleared.domains[d].quota.toNat ≤ 16) ∧
      (1 ≤ DomainUnit.cleared.domains[d].limit.toNat ∧ DomainUnit.cleared.domains[d].limit.toNat ≤ 32) := by
  simp [DomainUnit.cleared, DomainRec.cleared, Config.defaultQuota, Config.defaultLimit]

theorem faultLog_cleared : FaultLog.cleared.Law := ⟨Nat.zero_le _, fun h => absurd rfl h⟩

/-- R82: the law of the Timebase, on the Timebase alone. -/
abbrev TimeBase.Law (tb : TimeBase) : Prop :=
  1 ≤ tb.missTimeout.toNat ∧ 1 ≤ tb.upstreamTimeout.toNat ∧ tb.prescale < tb.period.prescale

theorem timeBase_defaults : TimeBase.defaults.Law := by decide

theorem prescale_pos (p : TickPeriod) : 0 < p.prescale := by
  cases p <;> decide

theorem recordsSound_startUp (strap : BitVec 4) (cause : ResetCause) (s : State) : (startUp strap cause s).RecordsSound :=
  ⟨faultLog_cleared, domainLaw_cleared, timeBase_defaults⟩

theorem LinkAct.recordsSound {s t : State} (h : LinkAct s t) (hs : s.RecordsSound) : t.RecordsSound := by
  cases h with
  | startUp strap cause => exact recordsSound_startUp strap cause s
  | portUp =>
    rw [clientUp_eq]
    exact hs
  | fabricLost =>
    rw [fabricLost_eq]
    obtain ⟨hlog, hrest⟩ := hs
    exact ⟨FaultLog.Law.foldl_after hlog _, hrest⟩
  | _ => exact hs

theorem Act.recordsSound {s t : State} (h : Act s t) (hs : s.RecordsSound) : t.RecordsSound := by
  obtain ⟨hlog, hdomain, htiming⟩ := hs
  have hsame := And.intro hlog (And.intro hdomain htiming)
  cases h with
  | log f => exact ⟨FaultLog.Law.after hlog f, hdomain, htiming⟩
  | readLog n =>
    refine ⟨⟨(List.length_drop ▸ Nat.sub_le ..).trans hlog.1, fun hoverflow hempty => hoverflow ?_⟩, hdomain, htiming⟩
    exact if_pos (List.isEmpty_iff.2 hempty)
  | conclude =>
    rw [unquiesced_eq]
    exact hsame
  | @grant w => cases w <;> exact hsame
  | clear => exact ⟨⟨Nat.zero_le _, fun h => absurd rfl h⟩, domainLaw_cleared, timeBase_defaults⟩
  | @setTiming p _ _ hm hu => exact ⟨hlog, hdomain, hm, hu, prescale_pos p⟩
  | @setDomain d r hquota hlimit =>
    refine ⟨hlog, fun e => ?_, htiming⟩
    rw [writeDomain_domains]
    split
    · exact ⟨hquota, hlimit⟩
    · exact hdomain e
  | run =>
    obtain ⟨hmiss, hupstream, -⟩ := htiming
    exact ⟨hlog, hdomain, hmiss, hupstream, prescale_pos _⟩
  | _ => exact hsame

/-- Settles O60, over the acts of a step. -/
theorem logDomainTimingLawsAreKept : Obligations.LogDomainTimingLawsAreKept := by
  intro s t hlog hdomain htiming hstep
  refine step_keeps (P := State.RecordsSound) (fun _ _ h => h) (fun _ _ h => h.recordsSound) (fun _ _ h => h.recordsSound)
    (fun u h => ?_) (fun u hlow h => ?_) ⟨hlog, hdomain, htiming⟩ hstep
  · obtain ⟨hlog, hdomain, hmiss, hupstream, -⟩ := h
    exact ⟨hlog, hdomain, hmiss, hupstream, prescale_pos _⟩
  · obtain ⟨hlog, hdomain, hmiss, hupstream, -⟩ := h
    exact ⟨hlog, hdomain, hmiss, hupstream, hlow⟩

end Sys2Proof.Machine
end

section
/-! PROOFS. The invariant of the credits (R45): port by port, over the acts of a step. -/

namespace Sys2Proof.Machine

/-- R45: the law of the credits, on one port alone. -/
abbrev PortState.Law (p : Port) (c : PortState) : Prop :=
  (c.link = .up → c.credits + c.queue.length = Config.queueCapacity) ∧ (c.link = .down → c = PortState.cleared) ∧
    ∀ q, c.staging = some q → q.req.port = p

theorem PortState.Law.cleared (p : Port) : PortState.cleared.Law p := ⟨nofun, fun _ => rfl, nofun⟩

theorem PortState.Law.of_up {p : Port} {c : PortState} (hup : c.link = .up)
    (hsum : c.credits + c.queue.length = Config.queueCapacity) (hstaged : ∀ q, c.staging = some q → q.req.port = p) :
    c.Law p :=
  ⟨fun _ => hsum, fun hdown => by simp [hup] at hdown, hstaged⟩

/-- A port whose queue or staging position holds something is UP. -/
theorem PortState.Law.up {p : Port} {c : PortState} (h : c.Law p) (hfull : c.queue ≠ [] ∨ c.staging ≠ none) :
    c.link = .up := by
  cases hlink : c.link with
  | up => rfl
  | down =>
    rw [h.2.1 hlink] at hfull
    obtain hqueue | hstaging := hfull
    · exact absurd rfl hqueue
    · exact absurd rfl hstaging

theorem PortState.Law.unstaged {p : Port} {c : PortState} (h : c.Law p) :
    ({ c with staging := none } : PortState).Law p := by
  obtain ⟨hup, hdown, -⟩ := h
  refine ⟨hup, fun hlink => ?_, nofun⟩
  rw [hdown hlink]
  rfl

theorem PortState.Law.restaged {p : Port} {c : PortState} (h : c.Law p) (hlink : c.link = .up) {q : Staged}
    (hq : q.req.port = p) : ({ c with staging := some q } : PortState).Law p :=
  .of_up hlink (h.1 hlink) (by simpa using hq)

theorem PortState.Law.marked {p : Port} {c : PortState} (h : c.Law p) (hits : Staged → Bool) :
    ({ c with staging := c.staging.map (Staged.mark hits) } : PortState).Law p := by
  obtain ⟨hup, hdown, hstaged⟩ := h
  refine ⟨hup, fun hlink => ?_, fun q hsome => ?_⟩
  · rw [hdown hlink]
    rfl
  · obtain ⟨q', hq', rfl⟩ := Option.map_eq_some_iff.1 hsome
    have hreq : (Staged.mark hits q').req = q'.req := by unfold Staged.mark; split <;> rfl
    rw [hreq]
    exact hstaged q' hq'

theorem creditLaw_updPort {p : Port} {f : PortState → PortState} {s : State} (hs : s.CreditLaw)
    (hp : (f s.ports[p]).Law p) : (s.updPort p f).CreditLaw := by
  intro q
  by_cases hq : q = p
  · subst hq
    rw [State.updPort_ports_self]
    exact hp
  · rw [State.updPort_ports_ne _ _ _ _ hq]
    exact hs q

theorem creditLaw_setStaging_none {s : State} (p : Port) (hs : s.CreditLaw) : (s.setStaging p none).CreditLaw :=
  creditLaw_updPort hs (PortState.Law.unstaged (hs p))

theorem creditLaw_markStale {s : State} (hits : Staged → Bool) (hs : s.CreditLaw) : (markStale hits s).CreditLaw := by
  intro p
  simp only [Fin.getElem_fin, markStale_ports]
  exact PortState.Law.marked (hs p) hits

/-- R58: a request offered at a port names it, and the port is UP. -/
theorem offered_port {p : Port} {r : Request} {s : State} (hs : s.CreditLaw) (h : s.Offered p r) :
    r.port = p ∧ s.ports[p].link = .up := by
  obtain ⟨-, hqueue, hport⟩ | ⟨q, hstaged, rfl⟩ := h
  · exact ⟨hport, PortState.Law.up (hs p) (.inl hqueue)⟩
  · exact ⟨(hs p).2.2 q hstaged, PortState.Law.up (hs p) (.inr (by rw [hstaged]; exact nofun))⟩

theorem Act.creditLaw {s t : State} (h : Act s t) (hs : s.CreditLaw) : t.CreditLaw := by
  cases h with
  | @arrive p pkt hup hcredit =>
    refine creditLaw_updPort hs (.of_up hup ?_ (hs p).2.2)
    have hsum := (hs p).1 hup
    simp only [List.length_append, List.length_singleton]
    omega
  | @takeHead p pkt rest hqueue =>
    have hup : s.ports[p].link = .up := PortState.Law.up (hs p) (.inl (by rw [hqueue]; exact List.cons_ne_nil _ _))
    refine creditLaw_updPort hs (.of_up hup ?_ (hs p).2.2)
    have hsum := (hs p).1 hup
    rw [hqueue, List.length_cons] at hsum
    exact (Nat.add_right_comm ..).trans hsum
  | @emptyQueue p hup =>
    exact creditLaw_updPort hs (.of_up hup ((hs p).1 hup) (hs p).2.2)
  | unstage p => exact creditLaw_setStaging_none p hs
  | stage hoffered _ _ _ =>
    obtain ⟨hport, hup⟩ := offered_port hs hoffered
    exact creditLaw_updPort (s := setHit _ s) hs (PortState.Law.restaged (hs _) hup hport)
  | @join p => exact creditLaw_setStaging_none p hs
  | @record p => exact creditLaw_setStaging_none p hs
  | @grant w q i => cases w with
    | cp p => exact creditLaw_setStaging_none (s := s.slotGranted (.cp p) q i) p hs
    | rp => exact hs
  | conclude =>
    rw [unquiesced_eq]
    exact hs
  | bind p st b => exact creditLaw_markStale _ hs
  | setDomain d => exact creditLaw_markStale _ hs
  | place => exact creditLaw_markStale _ hs
  | invalidate => exact creditLaw_markStale _ hs
  | _ => exact hs

/-- R163: the ports of a part whose links are all DOWN. -/
theorem creditLaw_dark {u : State} (hu : u.ports = Vector.replicate 4 PortState.cleared) : u.CreditLaw := fun p => by
  have hport : u.ports[p] = PortState.cleared := by simp [hu]
  rw [hport]
  exact PortState.Law.cleared p

theorem LinkAct.creditLaw {s t : State} (h : LinkAct s t) (hs : s.CreditLaw) : t.CreditLaw := by
  cases h with
  | startUp => exact creditLaw_dark rfl
  | assertReset => exact creditLaw_dark rfl
  | @portUp p hdown =>
    have hlaw : (s.updPort p fun c => { c with link := .up, credits := Config.queueCapacity }).CreditLaw := by
      refine creditLaw_updPort hs (.of_up rfl ?_ (hs p).2.2)
      rw [(hs p).2.1 hdown]
      rfl
    intro q
    rw [clientUp, sendClient_ports]
    exact hlaw q
  | @portDown p hup =>
    have hlaw := creditLaw_updPort (f := fun _ => PortState.cleared) hs (PortState.Law.cleared p)
    exact fun q => hlaw q
  | fabricUp => exact hs
  | fabricLost =>
    rw [fabricLost_eq]
    intro p
    simp only [Fin.getElem_fin, getElem_mapTable, PortState.afterLoss]
    split
    · exact PortState.Law.unstaged (hs p)
    · exact hs p

theorem tickAll_ports (s : State) : (tickAll s).ports = s.ports := by simp only [tickAll]

/-- Settles O54, port by port over the acts of a step. -/
theorem creditsAreConserved : Obligations.CreditsAreConserved := by
  intro s t hs hstep
  refine step_keeps (P := State.CreditLaw) (fun u l h => ?_) (fun _ _ h => h.creditLaw) (fun _ _ h => h.creditLaw)
    (fun u h => ?_) (fun u _ h => ?_) hs hstep
  · exact h
  · intro p
    rw [tickAll_ports]
    exact h p
  · exact h

end Sys2Proof.Machine
end

section
/-! PROOFS. The invariants of the Mapping Table (R1, R3, R13, R24), and that every step goes on (R18). -/

namespace Sys2Proof.Machine

/-- R3, R13, R1: the laws of the Mapping Table together. -/
abbrev State.TableLaws (s : State) : Prop := s.PinLaw ∧ s.OverlapLaw ∧ s.EntryLaw

/-! ### Two entries -/

/-- R13: two ranges that a domain sees both share no address, the first entry being valid. -/
abbrev Entry.Apart (e f : Entry) : Prop :=
  e.valid = true → f.conflicts e.scope e.clientBase.toNat e.size.bytes = false

theorem conflicts_iff {e : Entry} {sc : Scope} {base length : Nat} :
    e.conflicts sc base length = true ↔
      e.valid = true ∧ (sc = .shared ∨ e.scope = .shared ∨ sc = e.scope) ∧ e.clientBase.toNat < base + length ∧
        base < e.clientBase.toNat + e.size.bytes := by
  simp [Entry.conflicts, Entry.overlaps, Scope.meets_iff, and_assoc]

theorem Entry.apart_iff {e f : Entry} :
    e.Apart f ↔ ¬ (e.valid = true ∧ f.valid = true ∧ (e.scope = .shared ∨ f.scope = .shared ∨ e.scope = f.scope) ∧
      f.clientBase.toNat < e.clientBase.toNat + e.size.bytes ∧
      e.clientBase.toNat < f.clientBase.toNat + f.size.bytes) := by
  rw [Entry.Apart, ← Bool.not_eq_true, conflicts_iff]
  exact not_and.symm

theorem Entry.Apart.symm {e f : Entry} (h : e.Apart f) : f.Apart e := by
  rw [Entry.apart_iff] at h ⊢
  rintro ⟨hf, he, hscope, hlow, hhigh⟩
  refine h ⟨he, hf, ?_, hhigh, hlow⟩
  obtain hf | he | heq := hscope
  · exact .inr (.inl hf)
  · exact .inl he
  · exact .inr (.inr heq.symm)

/-- What a change of the table other than an INSTALL keeps of an entry: where it is still valid, it was valid and has
the same fields, the pinned field and the hit flag apart; where it is not, it is neither pinned nor hit. -/
def Entry.Keeps (e e' : Entry) : Prop :=
  (e'.valid = true → e.valid = true ∧ e'.scope = e.scope ∧ e'.size = e.size ∧ e'.clientBase = e.clientBase ∧
    e'.node = e.node ∧ e'.fabricBase = e.fabricBase ∧ e'.perms = e.perms) ∧
  (e'.valid = false → e'.pinned = false ∧ e'.hit = false)

theorem Entry.Keeps.refl {e : Entry} (h : e.valid = false → e.pinned = false ∧ e.hit = false) : e.Keeps e :=
  ⟨fun hvalid => ⟨hvalid, rfl, rfl, rfl, rfl, rfl, rfl⟩, h⟩

/-- A valid entry whose pinned field and hit flag change is kept. -/
theorem Entry.Keeps.of_valid {e : Entry} (hvalid : e.valid = true) (pinned hit : Bool) :
    e.Keeps { e with pinned := pinned, hit := hit } :=
  ⟨fun _ => ⟨hvalid, rfl, rfl, rfl, rfl, rfl, rfl⟩, fun hinvalid => by simp [hvalid] at hinvalid⟩

theorem Entry.Keeps.unhit {e : Entry} (h : e.valid = false → e.pinned = false ∧ e.hit = false) :
    e.Keeps { e with hit := false } :=
  ⟨fun hvalid => ⟨hvalid, rfl, rfl, rfl, rfl, rfl, rfl⟩, fun hinvalid => ⟨(h hinvalid).1, rfl⟩⟩

theorem Entry.Keeps.invalidated (e : Entry) : e.Keeps e.invalidated := ⟨nofun, fun _ => ⟨rfl, rfl⟩⟩

theorem Entry.Keeps.apart {e e' f f' : Entry} (he : e.Keeps e') (hf : f.Keeps f') (h : e.Apart f) : e'.Apart f' := by
  rw [Entry.apart_iff] at h ⊢
  rintro ⟨hvalid, hvalid', hrest⟩
  obtain ⟨hev, hes, hez, hec, -⟩ := he.1 hvalid
  obtain ⟨hfv, hfs, hfz, hfc, -⟩ := hf.1 hvalid'
  rw [hes, hez, hec, hfs, hfz, hfc] at hrest
  exact h ⟨hev, hfv, hrest⟩

theorem Entry.Keeps.sound {e e' : Entry} {own : Byte} (he : e.Keeps e') (h : e.Sound own) : e'.Sound own := by
  intro hvalid
  obtain ⟨hev, -, hez, hec, hen, hef, hep⟩ := he.1 hvalid
  rw [hez, hec, hen, hef, hep]
  exact h hev

/-- R3, R13, R1: the laws of the table where every entry is kept and the pinned count stays in its limit. -/
theorem tableLaws_of_keeps {s t : State} (hs : s.TableLaws) (hown : t.ownNode = s.ownNode)
    (hkeeps : ∀ j : EntryIndex, s.tu.entries[j].Keeps t.tu.entries[j]) (hcount : t.pinnedCount ≤ Config.maxPinned) :
    t.TableLaws := by
  obtain ⟨-, hoverlap, hentry⟩ := hs
  refine ⟨⟨hcount, fun j => (hkeeps j).2⟩, fun i j hij => ?_, fun j => ?_⟩
  · exact (hkeeps i).apart (hkeeps j) (hoverlap i j hij)
  · rw [hown]
    exact (hkeeps j).sound (hentry j)

/-! ### The pinned count -/

theorem pinnedCount_le {s t : State} (h : ∀ j : EntryIndex, t.tu.entries[j].valid = true →
    t.tu.entries[j].pinned = true → s.tu.entries[j].valid = true ∧ s.tu.entries[j].pinned = true) :
    t.pinnedCount ≤ s.pinnedCount := by
  rw [pinnedCount_eq_pins, pinnedCount_eq_pins, State.pins, State.pins, ← List.countP_eq_length_filter,
    ← List.countP_eq_length_filter]
  refine List.countP_mono_left fun j _ hj => ?_
  obtain ⟨hvalid, hpinned⟩ := Bool.and_eq_true_iff.1 hj
  exact Bool.and_eq_true_iff.2 (h j hvalid hpinned)

/-- R3, R14: the pinned count with entry `i` and without it. -/
theorem pinnedBut_add (i : EntryIndex) (s : State) :
    s.pinnedBut (fun j => j == i) + (s.tu.entries[i].valid && s.tu.entries[i].pinned).toNat = s.pins := by
  have h := countP_finRange_of_eq_off (n := 64)
    (p := fun j => !(j == i) && s.tu.entries[j].valid && s.tu.entries[j].pinned)
    (q := fun j => s.tu.entries[j].valid && s.tu.entries[j].pinned) i
    (fun j hj => by rw [beq_eq_false_iff_ne.2 hj]; rfl)
  rw [State.pins, ← List.countP_eq_length_filter]
  simpa [State.pinnedBut] using h

/-- R3, R14: a write at `i` whose pin request found room keeps the pinned count in its limit. -/
theorem pins_write {i : EntryIndex} {f : Entry → Entry} {s : State} (hs : s.pins ≤ 48)
    (hroom : (f s.tu.entries[i]).pinned = true → s.pinnedBut (fun j => j == i) < 48) : (s.updEntry i f).pins ≤ 48 := by
  have hafter := pins_updEntry i f s
  have hbut := pinnedBut_add i s
  cases hpinned : (f s.tu.entries[i]).pinned with
  | false =>
    rw [hpinned, Bool.and_false, Bool.toNat_false] at hafter
    omega
  | true =>
    have hone := Bool.toNat_le ((f s.tu.entries[i]).valid && true)
    rw [hpinned] at hafter
    have hlow := hroom hpinned
    omega

/-! ### The acts -/

theorem lookup_hit_valid {d : Domain} {a : Addr} {k : ReqKind} {s : State} {node : Byte} {fa : FabricAddr}
    {i : EntryIndex} (h : lookup d a k s = .hitAllowed node fa i) :
    s.matching d a = some i ∧ s.tu.entries[i].valid = true := by
  unfold lookup at h
  cases hmatching : s.matching d a with
  | none => simp [hmatching] at h
  | some j =>
    simp only [hmatching] at h
    split at h
    · obtain ⟨-, -, rfl⟩ := Lookup.hitAllowed.inj h
      have hmatches := List.find?_some hmatching
      simp only [Entry.matchesAt, Bool.and_eq_true] at hmatches
      exact ⟨rfl, hmatches.1.1.1⟩
    · simp at h

theorem tableLaws_setHit {i : EntryIndex} {s t : State} (hs : s.TableLaws) (hvalid : s.tu.entries[i].valid = true)
    (hown : t.ownNode = s.ownNode) (htu : t.tu = (setHit i s).tu) : t.TableLaws := by
  have hentry (j : EntryIndex) : t.tu.entries[j] = if j = i then { s.tu.entries[j] with hit := true } else s.tu.entries[j] := by
    rw [htu]
    simp only [setHit, Fin.getElem_fin, State.updEntry_entries, Fin.ext_iff, eq_comm (a := j.val)]
    split
    case isTrue h => simp only [h]
    case isFalse => rfl
  refine tableLaws_of_keeps hs hown (fun j => ?_) ((pinnedCount_le fun j hj hpinned => ?_).trans hs.1.1)
  · rw [hentry]
    split
    case isTrue h => exact .of_valid (h ▸ hvalid) _ _
    case isFalse => exact .refl (hs.1.2 j)
  · rw [hentry] at hj hpinned
    split at hj
    · exact ⟨hj, by simpa [*] using hpinned⟩
    · exact ⟨hj, by simpa [*] using hpinned⟩

theorem tableLaws_place {i : EntryIndex} {a : InstallArgs} {s : State} (hs : s.TableLaws) (hfits : Fits s.ownNode a)
    (hfree : ¬ Clashes a (fun j => j = i) s)
    (hroom : a.pin = true → s.pinnedBut (fun j => j == i) < Config.maxPinned) : (s.placed i a).TableLaws := by
  obtain ⟨⟨hcount, hinvalid⟩, hoverlap, hentries⟩ := hs
  have hentry (j : EntryIndex) : (s.placed i a).tu.entries[j] = if j = i then a.written else s.tu.entries[j] := by
    simp [State.placed, Vector.getElem_set, Fin.ext_iff, eq_comm]
  have hapart (j : EntryIndex) (hj : j ≠ i) : a.written.Apart s.tu.entries[j] := by
    rw [Entry.apart_iff]
    rintro ⟨-, hvalid, hscope, hlow, hhigh⟩
    exact hfree ⟨j, hj, hvalid, hscope, hhigh, hlow⟩
  refine ⟨⟨?_, fun j => ?_⟩, fun j k hjk => ?_, fun j => ?_⟩
  · rw [pinnedCount_eq_pins] at hcount ⊢
    exact pins_write (f := fun _ => a.written) hcount hroom
  · rw [hentry]
    split
    · exact nofun
    · exact hinvalid j
  · rw [hentry, hentry]
    by_cases hj : j = i
    · rw [if_pos hj, if_neg fun hk => hjk (hj.trans hk.symm)]
      exact hapart k fun hk => hjk (hj.trans hk.symm)
    · by_cases hk : k = i
      · rw [if_neg hj, if_pos hk]
        exact (hapart j hj).symm
      · rw [if_neg hj, if_neg hk]
        exact hoverlap j k hjk
  · rw [hentry]
    split
    · intro _
      obtain ⟨hclient, hfabric, htop, hnode, hperms, hposted⟩ := hfits
      have hbase : (a.fabricBase.setWidth 44).toNat = a.fabricBase.toNat := by
        have hpos : 0 < a.size.bytes := by cases a.size <;> decide
        rw [BitVec.toNat_setWidth, Nat.mod_eq_of_lt (by omega)]
      exact ⟨hclient, by rw [InstallArgs.written, hbase]; exact hfabric, by rw [InstallArgs.written, hbase]; exact htop,
        hnode, hperms, hposted⟩
    · exact hentries j

theorem tableLaws_cleared {t : State} (htu : t.tu = TransUnit.cleared) : t.TableLaws := by
  have hcleared (j : EntryIndex) : t.tu.entries[j] = Entry.cleared := by simp [htu, TransUnit.cleared]
  refine ⟨⟨?_, fun j => ?_⟩, fun i j _ => ?_, fun j => ?_⟩
  · have hnone : t.pinnedCount = 0 := List.countP_eq_zero.2 fun j _ => by rw [hcleared]; exact nofun
    rw [hnone]
    exact Nat.zero_le _
  · rw [hcleared]
    exact fun _ => ⟨rfl, rfl⟩
  · rw [hcleared]
    exact nofun
  · rw [hcleared]
    exact nofun

theorem Act.tableLaws {s t : State} (h : Act s t) (hs : s.TableLaws) : t.TableLaws := by
  cases h with
  | stage _ _ _ hhit => exact tableLaws_setHit hs (lookup_hit_valid hhit).2 rfl rfl
  | stageRp _ _ hhit => exact tableLaws_setHit hs (lookup_hit_valid hhit).2 rfl rfl
  | place hfits hfree hroom => exact tableLaws_place hs hfits hfree hroom
  | clear => exact tableLaws_cleared rfl
  | @sweep es clock hes =>
    refine tableLaws_of_keeps hs rfl (fun j => ?_) ((pinnedCount_le fun j hj hpinned => ?_).trans hs.1.1)
    · obtain heq | heq := hes j
      · rw [heq]
        exact .refl (hs.1.2 j)
      · rw [heq]
        exact .unhit (hs.1.2 j)
    · obtain heq | heq := hes j <;> rw [heq] at hj hpinned <;> exact ⟨hj, hpinned⟩
  | @pin i on hvalid hroom =>
    have hentry (j : EntryIndex) : (s.pinnedTo i on).tu.entries[j] =
        if j = i then { s.tu.entries[j] with pinned := on } else s.tu.entries[j] := by
      simp only [State.pinnedTo, Fin.getElem_fin, State.updEntry_entries, Fin.ext_iff, eq_comm (a := j.val)]
      split
      case isTrue h => simp only [h]
      case isFalse => rfl
    refine tableLaws_of_keeps hs rfl (fun j => ?_) ?_
    · rw [hentry]
      split
      case isTrue h => exact .of_valid (h ▸ hvalid) _ _
      case isFalse => exact .refl (hs.1.2 j)
    · have hcount := hs.1.1
      rw [pinnedCount_eq_pins] at hcount hroom ⊢
      refine pins_write hcount fun hon => lt_of_le_of_lt ?_ (hroom hon)
      have hbut := pinnedBut_add i s
      omega
  | invalidate sel =>
    have hentry (j : EntryIndex) : (Machine.invalidate sel s).tu.entries[j] =
        if s.tu.entries[j].valid && sel j s.tu.entries[j] then s.tu.entries[j].invalidated else s.tu.entries[j] := by
      simp [Machine.invalidate]
    refine tableLaws_of_keeps hs rfl (fun j => ?_) ((pinnedCount_le fun j hj hpinned => ?_).trans hs.1.1)
    · rw [hentry]
      split
      · exact .invalidated _
      · exact .refl (hs.1.2 j)
    · rw [hentry] at hj hpinned
      split at hj
      · simp [Entry.invalidated] at hj
      case isFalse hout =>
        rw [if_neg hout] at hpinned
        exact ⟨hj, hpinned⟩
  | conclude =>
    rw [unquiesced_eq]
    exact hs
  | @grant w => cases w <;> exact hs
  | _ => exact hs

theorem LinkAct.tableLaws {s t : State} (h : LinkAct s t) (hs : s.TableLaws) : t.TableLaws := by
  cases h with
  | startUp => exact tableLaws_cleared rfl
  | portUp =>
    rw [clientUp_eq]
    exact hs
  | fabricLost =>
    rw [fabricLost_eq]
    exact hs
  | _ => exact hs

/-! ### Every step goes on -/

/-- R17, R18: a sweep finds its victim where some entry is not pinned. -/
theorem sweep_isSome {i v : EntryIndex} {es : Vector Entry 64} (hv : es[v].pinned = false) :
    ∃ out, sweep sweepBound i es = some out := by
  by_cases hclear : ∃ j : EntryIndex, es[j].pinned = false ∧ es[j].hit = false
  · obtain ⟨j, hj⟩ := hclear
    obtain ⟨w, hw, hleast⟩ := Finset.exists_min_image
      (Finset.univ.filter fun j : EntryIndex => es[j].pinned = false ∧ es[j].hit = false) (fun j => (j - i).val)
      ⟨j, Finset.mem_filter.2 ⟨Finset.mem_univ j, hj⟩⟩
    obtain ⟨hpinned, hhit⟩ := (Finset.mem_filter.1 hw).2
    refine ⟨_, sweep_finds ((w - i).isLt.trans (by decide)) hpinned hhit fun k hk hunpinned => ?_⟩
    by_contra hne
    exact absurd (hleast k (Finset.mem_filter.2 ⟨Finset.mem_univ k, hunpinned, by simpa using hne⟩)) (by omega)
  · have hhit (j : EntryIndex) (hj : es[j].pinned = false) : es[j].hit = true := by
      by_contra hne
      exact hclear ⟨j, hj, by simpa using hne⟩
    obtain ⟨w, hw, hleast⟩ := Finset.exists_min_image (Finset.univ.filter fun j : EntryIndex => es[j].pinned = false)
      (fun j => (j - i).val) ⟨v, Finset.mem_filter.2 ⟨Finset.mem_univ v, hv⟩⟩
    exact ⟨_, sweep_finds_second_pass le_rfl (Finset.mem_filter.1 hw).2 hhit
      fun k hk => hleast k (Finset.mem_filter.2 ⟨Finset.mem_univ k, hk⟩)⟩

/-- R3: with every entry valid, the pin limit leaves an entry unpinned. -/
theorem exists_unpinned {s : State} (hs : s.PinLaw) (hvalid : ∀ j : EntryIndex, s.tu.entries[j].valid = true) :
    ∃ v : EntryIndex, s.tu.entries[v].pinned = false := by
  by_contra hnone
  have hall (j : EntryIndex) : s.tu.entries[j].pinned = true := by
    by_contra hne
    exact hnone ⟨j, by simpa using hne⟩
  have hfull : s.pinnedCount = 64 := by
    rw [State.pinnedCount, State.pinnedBut, List.countP_eq_length.2 fun j _ => by rw [hvalid, hall]; rfl,
      List.length_finRange]
  have hlimit := hs.1
  rw [hfull] at hlimit
  exact absurd hlimit (by decide)

theorem chooseAny_isSome {s : State} (hs : s.PinLaw) : ∃ out, s.chooseAny = some out := by
  unfold State.chooseAny
  split
  · exact ⟨_, rfl⟩
  case h_2 hnone =>
    obtain ⟨v, hv⟩ := exists_unpinned hs (lowestInvalid_eq_none_iff.1 hnone)
    obtain ⟨⟨w, es⟩, hsweep⟩ := sweep_isSome (i := s.tu.clock) hv
    rw [hsweep]
    exact ⟨_, rfl⟩

theorem installAnyBody_isSome {c : Command} {s : State} (hs : s.PinLaw) : ∃ out, installAnyBody c s = some out := by
  obtain ⟨⟨i, t⟩, hchoose⟩ := chooseAny_isSome hs
  unfold installAnyBody
  simp only [hchoose]
  repeat' split
  all_goals exact ⟨_, rfl⟩

/-- No command stops a part that keeps the pin limit. -/
theorem exec_goes_on (c : Instr) {s : State} (hs : s.PinLaw) : ∃ t, exec c s = .next t := by
  cases c with
  | installAny c =>
    obtain ⟨out, hout⟩ := installAnyBody_isSome (c := c) hs
    rw [exec_installAny, execInstallAny, hout]
    split <;> exact ⟨_, rfl⟩
  | _ => exact ⟨_, rfl⟩

theorem step_goes_on {s : State} (hs : s.PinLaw) : ∃ t, step s = .next t := by
  unfold step
  split
  · exact exec_goes_on _ hs
  · split
    · exact exec_goes_on _ hs
    · exact ⟨_, rfl⟩

theorem tickAll_tu (s : State) : (tickAll s).tu = s.tu := by simp only [tickAll]

theorem tickAll_strap (s : State) : (tickAll s).strap = s.strap := by simp only [tickAll]

/-- Settles O55: every step goes on, and every act of it keeps the laws of the table. -/
theorem tableLawsAreKept : Obligations.TableLawsAreKept := by
  intro s hpin hoverlap hentry
  obtain ⟨t, hstep⟩ := step_goes_on hpin
  refine ⟨t, hstep, ?_⟩
  refine step_keeps (P := State.TableLaws) (fun u l h => ?_) (fun _ _ h => h.tableLaws) (fun _ _ h => h.tableLaws)
    (fun u h => ?_) (fun u _ h => ?_) ⟨hpin, hoverlap, hentry⟩ hstep
  · exact h
  · have hown : (tickAll u).ownNode = u.ownNode := by rw [State.ownNode, State.ownNode, tickAll_strap]
    refine tableLaws_of_keeps h hown (fun j => ?_) ?_
    · rw [tickAll_tu]
      exact .refl (h.1.2 j)
    · rw [State.pinnedCount, State.pinnedBut, tickAll_tu]
      exact h.1.1
  · exact h

end Sys2Proof.Machine
end

section
/-! PROOFS. The invariants of the Miss List, the Held Store and RP (R89 to R92, R103), over the acts of a step; and the
ticket of a new record (R92). -/

namespace Sys2Proof.Machine

/-! ### The ticket of a new record -/

theorem freshTicket_spec (live : List Half) (n : Nat) (c : Half) :
    ∃ k, k ≤ n ∧ freshTicket live n c = c + BitVec.ofNat 16 k ∧ (∀ j < k, c + BitVec.ofNat 16 j ∈ live) ∧
      (k < n → c + BitVec.ofNat 16 k ∉ live) := by
  induction n generalizing c with
  | zero => exact ⟨0, le_rfl, by simp [freshTicket], by simp, by simp⟩
  | succ n ih =>
    by_cases hlive : c ∈ live
    · obtain ⟨k, hk, heq, hbelow, hfresh⟩ := ih (c + 1)
      have hshift (j : Nat) : c + 1 + BitVec.ofNat 16 j = c + BitVec.ofNat 16 (j + 1) := by
        rw [BitVec.add_assoc, BitVec.ofNat_add, BitVec.add_comm 1]
        rfl
      simp only [hshift] at heq hbelow hfresh
      refine ⟨k + 1, by omega, ?_, fun j hj => ?_, fun hlt => hfresh (by omega)⟩
      · rw [freshTicket, if_pos (List.contains_iff_mem.2 hlive), heq]
      · cases j with
        | zero => simpa using hlive
        | succ j => exact hbelow j (by omega)
    · refine ⟨0, Nat.zero_le _, ?_, by simp, fun _ => by simpa using hlive⟩
      rw [freshTicket, if_neg (by simpa using hlive)]
      simp

/-- R92: the ticket of a new record is the first, from the ticket counter up, that no live record holds. -/
theorem nextTicket_spec {s : State} (hroom : s.mu.records.length < 16) :
    ∃ k, s.nextTicket = s.mu.ticket + BitVec.ofNat 16 k ∧ (∀ m ∈ s.mu.records, m.ticket ≠ s.nextTicket) ∧
      ∀ j < k, ∃ m ∈ s.mu.records, m.ticket = s.mu.ticket + BitVec.ofNat 16 j := by
  obtain ⟨k, hk, heq, hbelow, hfresh⟩ :=
    freshTicket_spec (s.mu.records.map MissRec.ticket) (s.mu.records.length + 1) s.mu.ticket
  have hnext : s.nextTicket = s.mu.ticket + BitVec.ofNat 16 k := heq
  have hlt : k < s.mu.records.length + 1 := by
    refine lt_of_le_of_ne hk fun hall => ?_
    have hnodup : ((List.range k).map fun j => s.mu.ticket + BitVec.ofNat 16 j).Nodup := by
      refine List.Nodup.map_on (fun i hi j hj hij => ?_) List.nodup_range
      rw [List.mem_range] at hi hj
      have hval := congrArg BitVec.toNat (add_left_cancel hij)
      rw [BitVec.toNat_ofNat, BitVec.toNat_ofNat] at hval
      omega
    have hsubset : ((List.range k).map fun j => s.mu.ticket + BitVec.ofNat 16 j) ⊆ s.mu.records.map MissRec.ticket := by
      intro x hx
      obtain ⟨j, hj, rfl⟩ := List.mem_map.1 hx
      exact hbelow j (List.mem_range.1 hj)
    have hlength := (hnodup.subperm hsubset).length_le
    rw [List.length_map, List.length_map, List.length_range] at hlength
    omega
  refine ⟨k, hnext, fun m hm hticket => ?_, fun j hj => List.mem_map.1 (hbelow j hj)⟩
  exact hfresh hlt (hnext ▸ hticket ▸ List.mem_map_of_mem hm)

/-! ### The laws of the miss unit -/

/-- R89 to R92, R103: the laws of the Miss List, the Held Store and RP together. -/
abbrev State.MissLaws (s : State) : Prop := s.RecordLaw ∧ s.HeldLaw ∧ s.RpLaw

theorem recordLaw_of_sublist {s t : State} (hs : s.RecordLaw) (hsub : t.mu.records.Sublist s.mu.records) : t.RecordLaw :=
  ⟨hsub.length_le.trans hs.1, hs.2.1.sublist (hsub.map _), hs.2.2.sublist (hsub.map _)⟩

/-- A change of the fields of a record that are not its name leaves all laws. -/
theorem missLaws_map {s t : State} {f : MissRec → MissRec} (hs : s.MissLaws)
    (hf : ∀ m, (f m).ticket = m.ticket ∧ (f m).domain = m.domain ∧ (f m).page = m.page)
    (hrecords : t.mu.records = s.mu.records.map f) (hheld : t.mu.held = s.mu.held) (hrp : t.mu.rp = s.mu.rp) :
    t.MissLaws := by
  obtain ⟨⟨hlength, hticket, hkey⟩, ⟨hroom, hunder, hfull⟩, hreplay⟩ := hs
  refine ⟨⟨?_, ?_, ?_⟩, ⟨hheld ▸ hroom, fun h hh t ht => ?_, fun m hm => ?_⟩, fun q hq => ?_⟩
  · rw [hrecords, List.length_map]
    exact hlength
  · rw [hrecords, List.map_map, show MissRec.ticket ∘ f = MissRec.ticket from funext fun m => (hf m).1]
    exact hticket
  · rw [hrecords, List.map_map, show (fun m => (m.domain, m.page)) ∘ f = fun m : MissRec => (m.domain, m.page) from
      funext fun m => Prod.ext (hf m).2.1 (hf m).2.2]
    exact hkey
  · obtain ⟨m, hm, hmt, hmd, hmp⟩ := hunder h (hheld ▸ hh) t ht
    obtain ⟨hft, hfd, hfp⟩ := hf m
    exact ⟨f m, hrecords ▸ List.mem_map_of_mem hm, hft.trans hmt, hfd.trans hmd, hfp.trans hmp⟩
  · rw [hrecords] at hm
    obtain ⟨m', hm', rfl⟩ := List.mem_map.1 hm
    rw [hheld, (hf m').1]
    exact hfull m' hm'
  · rw [hrp] at hq
    rw [State.replayQueue, hheld]
    exact hreplay q hq

/-- Marking staged requests stale leaves all laws. -/
theorem missLaws_mark {s t : State} (hs : s.MissLaws) (hits : Staged → Bool) (hrecords : t.mu.records = s.mu.records)
    (hheld : t.mu.held = s.mu.held) (hrp : t.mu.rp = s.mu.rp.map (Staged.mark hits)) : t.MissLaws := by
  obtain ⟨hrecord, hheldLaw, hreplay⟩ := hs
  refine ⟨by rw [State.RecordLaw, hrecords]; exact hrecord, by rw [State.HeldLaw, hrecords, hheld]; exact hheldLaw,
    fun q hq => ?_⟩
  rw [hrp] at hq
  obtain ⟨q', hq', rfl⟩ := Option.map_eq_some_iff.1 hq
  have hsame : (Staged.mark hits q').req = q'.req ∧ (Staged.mark hits q').domain = q'.domain := by
    unfold Staged.mark; split <;> exact ⟨rfl, rfl⟩
  rw [State.replayQueue, hheld, hsame.1, hsame.2]
  exact hreplay q' hq'

theorem missLaws_empty {t : State} (hrecords : t.mu.records = []) (hheld : t.mu.held = []) (hrp : t.mu.rp = none) :
    t.MissLaws := by
  refine ⟨by rw [State.RecordLaw, hrecords]; exact ⟨Nat.zero_le _, .nil, .nil⟩, ?_, fun q hq => ?_⟩
  · rw [State.HeldLaw, hrecords, hheld]
    exact ⟨Nat.zero_le _, nofun, nofun⟩
  · rw [hrp] at hq
    exact nomatch hq

/-- R93: the record that a miss of this domain and page finds. -/
theorem recordAt_some {d : Domain} {page : BitVec 20} {s : State} {m : MissRec} (h : s.recordAt d page = some m) :
    m ∈ s.mu.records ∧ m.domain = d ∧ m.page = page := by
  have hkey := List.find?_some h
  simp only [Bool.and_eq_true, beq_iff_eq] at hkey
  exact ⟨List.mem_of_find?_eq_some h, hkey⟩

theorem recordAt_eq_none_iff {d : Domain} {page : BitVec 20} {s : State} :
    s.recordAt d page = none ↔ ∀ m ∈ s.mu.records, m.domain = d → m.page ≠ page := by
  simp [State.recordAt]

/-- A request that is held under a ticket joins the Held Store: the Replay Queue is as it was. -/
theorem replayQueue_append_held (l : List HeldReq) (r : Request) (d : Domain) (t : Half) :
    ((l ++ [({ req := r, domain := d, place := .held t } : HeldReq)]).filter fun h => h.place == .replay) =
      l.filter fun h => h.place == .replay := by
  rw [List.filter_append]
  exact List.append_nil _

theorem missLaws_join {p : Port} {r : Request} {d : Domain} {m : MissRec} {s : State} (hs : s.MissLaws)
    (hrecord : s.recordAt d (pageOf r.address) = some m) (hroom : s.mu.held.length < Config.heldCapacity) :
    (joinMiss r d m.ticket (s.setStaging p none)).MissLaws := by
  obtain ⟨hm, hdomain, hpage⟩ := recordAt_some hrecord
  have hwidened : ({ s with mu := { s.mu with records := s.mu.records.map fun x =>
      if x.ticket = m.ticket then { x with wanted := x.wanted.union r.kind.need } else x } } : State).MissLaws := by
    refine missLaws_map hs (fun x => ?_) rfl rfl rfl
    split <;> exact ⟨rfl, rfl, rfl⟩
  obtain ⟨hrecordLaw, ⟨-, hunder, hfull⟩, hreplay⟩ := hwidened
  refine ⟨hrecordLaw, ⟨?_, fun h hh t ht => ?_, fun x hx => ?_⟩, fun q hq => ?_⟩
  · simp only [joinMiss, State.setStaging_mu, List.length_append, List.length_singleton]
    omega
  · obtain hold | hnew := List.mem_append.1 hh
    · exact hunder h hold t ht
    · rw [List.mem_singleton.1 hnew] at ht ⊢
      obtain rfl : m.ticket = t := Place.held.inj ht
      refine ⟨_, List.mem_map_of_mem hm, ?_⟩
      rw [if_pos rfl]
      exact ⟨rfl, hdomain, hpage⟩
  · obtain ⟨h, hh, hplace⟩ := hfull x hx
    exact ⟨h, List.mem_append_left _ hh, hplace⟩
  · obtain ⟨h, rest, hqueue, hreq⟩ := hreplay q hq
    exact ⟨h, rest, (replayQueue_append_held ..).trans hqueue, hreq⟩

theorem missLaws_record {p : Port} {r : Request} {d : Domain} {s : State} (hs : s.MissLaws)
    (hnone : s.recordAt d (pageOf r.address) = none) (hrecords : s.mu.records.length < Config.missCapacity)
    (hroom : s.mu.held.length < Config.heldCapacity) : ((s.setStaging p none).recorded r d).MissLaws := by
  obtain ⟨k, -, hfresh, -⟩ := nextTicket_spec hrecords
  rw [recordAt_eq_none_iff] at hnone
  obtain ⟨⟨-, htickets, hkeys⟩, ⟨-, hunder, hfull⟩, hreplay⟩ := hs
  refine ⟨⟨?_, ?_, ?_⟩, ⟨?_, fun h hh t ht => ?_, fun x hx => ?_⟩, fun q hq => ?_⟩
  · simp only [State.recorded, State.setStaging_mu, List.length_append, List.length_singleton]
    omega
  · simp only [State.recorded, State.setStaging_mu, List.map_append, List.map_singleton]
    refine List.nodup_append.2 ⟨htickets, List.nodup_singleton _, fun x hx y hy => ?_⟩
    obtain ⟨m, hm, rfl⟩ := List.mem_map.1 hx
    rw [List.mem_singleton.1 hy]
    exact hfresh m hm
  · simp only [State.recorded, State.setStaging_mu, List.map_append, List.map_singleton]
    refine List.nodup_append.2 ⟨hkeys, List.nodup_singleton _, fun x hx y hy hxy => ?_⟩
    obtain ⟨m, hm, rfl⟩ := List.mem_map.1 hx
    rw [List.mem_singleton.1 hy] at hxy
    obtain ⟨hdomain, hpage⟩ := Prod.mk.inj hxy
    exact hnone m hm hdomain hpage
  · simp only [State.recorded, State.setStaging_mu, List.length_append, List.length_singleton]
    omega
  · obtain hold | hnew := List.mem_append.1 hh
    · obtain ⟨m, hm, hrest⟩ := hunder h hold t ht
      exact ⟨m, List.mem_append_left _ hm, hrest⟩
    · rw [List.mem_singleton.1 hnew] at ht ⊢
      exact ⟨_, List.mem_append_right _ List.mem_cons_self, Place.held.inj ht, rfl, rfl⟩
  · obtain hold | hnew := List.mem_append.1 hx
    · obtain ⟨h, hh, hplace⟩ := hfull x hold
      exact ⟨h, List.mem_append_left _ hh, hplace⟩
    · rw [List.mem_singleton.1 hnew]
      exact ⟨_, List.mem_append_right _ List.mem_cons_self, rfl⟩
  · obtain ⟨h, rest, hqueue, hreq⟩ := hreplay q hq
    exact ⟨h, rest, (replayQueue_append_held ..).trans hqueue, hreq⟩

/-- R91: what the end of a record leaves held keeps its record. -/
theorem heldLaw_forget {s : State} (t : Half) (hs : s.HeldLaw) : (freeRecord t s).HeldLaw := by
  obtain ⟨hroom, hunder, hfull⟩ := hs
  refine ⟨(List.length_filter_le ..).trans hroom, fun h hh t' ht => ?_, fun m hm => ?_⟩
  · obtain ⟨hold, hplace⟩ := List.mem_filter.1 hh
    obtain ⟨m, hm, hmt, hrest⟩ := hunder h hold t' ht
    refine ⟨m, List.mem_filter.2 ⟨hm, ?_⟩, hmt, hrest⟩
    rw [ht, ← hmt] at hplace
    simpa using hplace
  · obtain ⟨hold, hticket⟩ := List.mem_filter.1 hm
    obtain ⟨h, hh, hplace⟩ := hfull m hold
    refine ⟨h, List.mem_filter.2 ⟨hh, ?_⟩, hplace⟩
    rw [hplace]
    simpa using hticket

theorem missLaws_forget {s : State} (t : Half) (hs : s.MissLaws) : (freeRecord t s).MissLaws := by
  obtain ⟨hrecord, hheld, hreplay⟩ := hs
  refine ⟨recordLaw_of_sublist hrecord List.filter_sublist, heldLaw_forget t hheld, fun q hq => ?_⟩
  have hqueue : (freeRecord t s).replayQueue = s.replayQueue := by
    rw [State.replayQueue, freeRecord_held, List.filter_filter]
    refine List.filter_congr fun h _ => ?_
    cases h.place <;> rfl
  rw [hqueue]
  exact hreplay q hq

/-- R102: RETRY adds to the tail of the Replay Queue. -/
theorem retryRecord_replayQueue (t : Half) (s : State) :
    ∃ moved, (retryRecord t s).replayQueue = s.replayQueue ++ moved := by
  refine ⟨_, (List.filter_append ..).trans (congrArg (· ++ _) ?_)⟩
  rw [State.replayQueue, List.filter_filter]
  refine List.filter_congr fun h _ => ?_
  cases h.place <;> rfl

theorem missLaws_retry {s : State} (t : Half) (hs : s.MissLaws) : (retryRecord t s).MissLaws := by
  obtain ⟨hrecord, hheld, hreplay⟩ := hs
  obtain ⟨-, hunder, hfull⟩ := heldLaw_forget t hheld
  refine ⟨recordLaw_of_sublist hrecord List.filter_sublist, ⟨?_, fun h hh t' ht => ?_, fun m hm => ?_⟩, fun q hq => ?_⟩
  · have hsplit := List.length_eq_length_filter_add (l := s.mu.held) fun h => h.place == .held t
    have hroom := hheld.1
    simp only [retryRecord, List.length_append, List.length_map, State.heldOf, bne]
    omega
  · obtain hold | hnew := List.mem_append.1 hh
    · exact hunder h hold t' ht
    · obtain ⟨h', -, rfl⟩ := List.mem_map.1 hnew
      exact nomatch ht
  · obtain ⟨h, hh, hplace⟩ := hfull m hm
    exact ⟨h, List.mem_append_left _ hh, hplace⟩
  · obtain ⟨h, rest, hqueue, hreq⟩ := hreplay q hq
    obtain ⟨moved, hmoved⟩ := retryRecord_replayQueue t s
    exact ⟨h, rest ++ moved, by rw [hmoved, hqueue]; rfl, hreq⟩

theorem missLaws_pop {s t : State} (hs : s.MissLaws) (hmu : t.mu = (popReplay s).mu) : t.MissLaws := by
  obtain ⟨hrecord, ⟨hroom, hunder, hfull⟩, -⟩ := hs
  refine ⟨by rw [State.RecordLaw, hmu]; exact hrecord, ?_, fun q hq => ?_⟩
  · rw [State.HeldLaw, hmu]
    refine ⟨(List.eraseP_sublist.length_le).trans hroom, fun h hh => hunder h (List.mem_of_mem_eraseP hh), fun m hm => ?_⟩
    obtain ⟨h, hh, hplace⟩ := hfull m hm
    exact ⟨h, (List.mem_eraseP_of_neg (by rw [hplace]; exact nofun)).2 hh, hplace⟩
  · rw [hmu] at hq
    exact nomatch hq

/-- R49: the miss unit after a port's link has gone DOWN. -/
theorem missLaws_removeHeld {s : State} (p : Port) (hs : s.MissLaws) : (removeHeld p s).MissLaws := by
  obtain ⟨hrecord, ⟨hroom, hunder, hfull⟩, hreplay⟩ := hs
  refine ⟨recordLaw_of_sublist hrecord List.filter_sublist,
    ⟨(List.length_filter_le ..).trans hroom, fun h hh t ht => ?_, fun m hm => ?_⟩, fun q hq => ?_⟩
  · obtain ⟨m, hm, rfl, hrest⟩ := hunder h (List.mem_filter.1 hh).1 t ht
    exact ⟨m, List.mem_filter.2 ⟨hm, List.any_eq_true.2 ⟨h, hh, by rw [ht, beq_self_eq_true]⟩⟩, rfl, hrest⟩
  · obtain ⟨h, hh, hplace⟩ := List.any_eq_true.1 (List.mem_filter.1 hm).2
    exact ⟨h, hh, by simpa using hplace⟩
  · have hold : s.mu.rp = some q ∧ q.req.port ≠ p := by
      simp only [removeHeld] at hq
      split at hq
      case h_1 q' hrp =>
        split at hq
        · exact nomatch hq
        case isFalse hport =>
          obtain rfl := Option.some.inj hq
          exact ⟨hrp, hport⟩
      case h_2 => exact nomatch hq
    obtain ⟨h, rest, hqueue, hreq, hdomain⟩ := hreplay q hold.1
    refine ⟨h, rest.filter fun h => h.req.port != p, ?_, hreq, hdomain⟩
    have hkept : (h.req.port != p) = true := by rw [hreq]; simpa using hold.2
    have hcomm : (removeHeld p s).replayQueue = s.replayQueue.filter fun h => h.req.port != p := by
      simp only [State.replayQueue, removeHeld, List.filter_filter, Bool.and_comm]
    rw [hcomm, hqueue]
    exact List.filter_cons_of_pos hkept

theorem Act.missLaws {s t : State} (h : Act s t) (hs : s.MissLaws) : t.MissLaws := by
  cases h with
  | join _ hrecord hroom => exact missLaws_join hs hrecord hroom
  | record _ _ hnone hrecords hroom => exact missLaws_record hs hnone hrecords hroom
  | @grant w q i => cases w with
    | cp p => exact hs
    | rp => exact missLaws_pop hs rfl
  | forget t => exact missLaws_forget t hs
  | retry t => exact missLaws_retry t hs
  | pop => exact missLaws_pop hs rfl
  | stageRp hoffered =>
    obtain ⟨hrecord, hheld, hreplay⟩ := hs
    refine ⟨hrecord, hheld, fun q hq => ?_⟩
    obtain rfl := Option.some.inj hq
    obtain ⟨h, rest, hqueue, rfl, rfl⟩ | ⟨q, hrp, rfl, rfl⟩ := hoffered
    · exact ⟨h, rest, hqueue, rfl, rfl⟩
    · exact hreplay q hrp
  | emptyMissUnit => exact missLaws_empty rfl rfl rfl
  | conclude =>
    rw [unquiesced_eq]
    exact hs
  | bind p st b => exact missLaws_mark hs (ofStream p st) rfl rfl rfl
  | setDomain d => exact missLaws_mark hs (ofDomain d) rfl rfl rfl
  | place => exact missLaws_mark hs _ rfl rfl rfl
  | invalidate => exact missLaws_mark hs _ rfl rfl rfl
  | _ => exact hs

theorem LinkAct.missLaws {s t : State} (h : LinkAct s t) (hs : s.MissLaws) : t.MissLaws := by
  cases h with
  | startUp => exact missLaws_empty rfl rfl rfl
  | assertReset => exact missLaws_empty rfl rfl rfl
  | portUp =>
    rw [clientUp_eq]
    exact hs
  | @portDown p => exact missLaws_removeHeld (s := orphanSlots p (s.updPort p fun _ => PortState.cleared)) p hs
  | fabricUp => exact hs
  | fabricLost =>
    rw [fabricLost_eq]
    exact missLaws_empty rfl rfl rfl

theorem tickAll_records (s : State) : (tickAll s).mu.records = s.mu.records.map fun m => { m with timer := lowered m.timer } := by
  simp only [tickAll]

theorem tickAll_held (s : State) : (tickAll s).mu.held = s.mu.held := by simp only [tickAll]

theorem tickAll_rp (s : State) : (tickAll s).mu.rp = s.mu.rp := by simp only [tickAll]

/-- Settles O58, over the acts of a step. -/
theorem missUnitLawsAreKept : Obligations.MissUnitLawsAreKept := by
  intro s t hrecord hheld hrp hstep
  refine step_keeps (P := State.MissLaws) (fun u l h => ?_) (fun _ _ h => h.missLaws) (fun _ _ h => h.missLaws)
    (fun u h => ?_) (fun u _ h => ?_) ⟨hrecord, hheld, hrp⟩ hstep
  · exact h
  · exact missLaws_map (f := fun m => { m with timer := lowered m.timer }) h (fun _ => ⟨rfl, rfl, rfl⟩)
      (tickAll_records u) (tickAll_held u) (tickAll_rp u)
  · exact h

end Sys2Proof.Machine
end

section
/-! PROOFS. The invariants of ownership and admission, and the quiet of a QUIESCED part (R109, R137, R155, R157, R158),
over the acts of a step. -/

namespace Sys2Proof.Machine

/-- R109, R137, R155, R157: the laws of ownership and admission together. -/
abbrev State.AdmissionLaws (s : State) : Prop := s.OwnerLaw ∧ s.NotifiedLaw ∧ s.QuiesceLaw ∧ s.QuietLaw

/-- R157: the MC's judgement, in the words of the statements. -/
theorem quiet_iff_empty (s : State) : s.quiet = true ↔ s.Quiet := by
  rw [quiet_iff, drained_iff]

/-- A change that leaves the Management Controller's ownership and admission as they were, makes no record and keeps a
quiet part quiet, keeps the laws. -/
theorem admissionLaws_of_kept {s t : State} (hs : s.AdmissionLaws) (hown : t.ownNode = s.ownNode)
    (hadmission : t.mc.admission = s.mc.admission) (howner : t.mc.owner = s.mc.owner)
    (hquiesce : t.mc.quiesce = s.mc.quiesce) (hrecords : s.mu.records = [] → t.mu.records = [])
    (hquiet : s.mc.admission = .quiesced → s.Quiet → t.Quiet) : t.AdmissionLaws := by
  obtain ⟨hownerLaw, hnotified, hquiesceLaw, hquietLaw⟩ := hs
  refine ⟨?_, fun hnone => hrecords (hnotified (howner ▸ hnone)), ?_, fun hquiesced => ?_⟩
  · rw [State.OwnerLaw, hadmission, howner, hown]
    exact hownerLaw
  · rw [State.QuiesceLaw, hadmission, hquiesce]
    exact hquiesceLaw
  · rw [hadmission] at hquiesced
    exact (quiet_iff_empty t).2 (hquiet hquiesced ((quiet_iff_empty s).1 (hquietLaw hquiesced)))

/-- A part that is CLOSED, without owner, records and pending QUIESCE keeps the laws. -/
theorem admissionLaws_closed {t : State} (hadmission : t.mc.admission = .closed) (howner : t.mc.owner = none)
    (hquiesce : t.mc.quiesce = none) (hrecords : t.mu.records = []) : t.AdmissionLaws := by
  refine ⟨⟨fun h => ?_, by rw [howner]; exact nofun⟩, fun _ => hrecords, ?_, fun h => ?_⟩
  · rw [hadmission] at h
    exact absurd h (by simp)
  · rw [State.QuiesceLaw, hadmission, hquiesce]
    simp
  · rw [hadmission] at h
    exact nomatch h

/-! ### A quiet part -/

/-- A change of the ports that fills no staging position keeps a part quiet. -/
theorem quiet_of_ports {s t : State} (hs : s.Quiet) (hfu : t.fu = s.fu) (hmu : t.mu = s.mu)
    (hports : ∀ p : Port, s.ports[p].staging = none → t.ports[p].staging = none) : t.Quiet := by
  obtain ⟨⟨hort, hstaging, hrest⟩, hfences⟩ := hs
  rw [State.Quiet, State.Empty, hfu, hmu]
  exact ⟨⟨hort, fun p => hports p (hstaging p), hrest⟩, hfences⟩

theorem quiet_updPort {s : State} {p : Port} {f : PortState → PortState} (hs : s.Quiet)
    (hf : ∀ c, c.staging = none → (f c).staging = none) : (s.updPort p f).Quiet := by
  refine quiet_of_ports hs rfl rfl fun q hq => ?_
  by_cases hqp : q = p
  · subst hqp
    rw [State.updPort_ports_self]
    exact hf _ hq
  · rw [State.updPort_ports_ne _ _ _ _ hqp]
    exact hq

/-- Marking staged requests stale keeps a quiet part quiet. -/
theorem quiet_mark {s t : State} (hs : s.Quiet) {hits : Staged → Bool} (hfu : t.fu = s.fu)
    (hports : ∀ p : Port, t.ports[p].staging = s.ports[p].staging.map (Staged.mark hits))
    (hrp : t.mu.rp = s.mu.rp.map (Staged.mark hits)) (hheld : t.mu.held = s.mu.held)
    (hrecords : t.mu.records = s.mu.records) : t.Quiet := by
  obtain ⟨⟨hort, hstaging, hnone, hrest⟩, hfences⟩ := hs
  rw [State.Quiet, State.Empty, hfu, hrp, hheld, hrecords, hnone]
  refine ⟨⟨hort, fun p => ?_, rfl, hrest⟩, hfences⟩
  rw [hports, hstaging]
  rfl

/-- A quiet part offers no request. -/
theorem not_offered_of_quiet {s : State} {p : Port} {r : Request} (hquiesced : s.mc.admission = .quiesced)
    (hs : s.Quiet) : ¬ s.Offered p r := by
  rintro (⟨hopened, -⟩ | ⟨q, hq, -⟩)
  · rw [hquiesced] at hopened
    exact nomatch hopened
  · rw [hs.1.2.1 p] at hq
    exact nomatch hq

theorem not_offeredToRp_of_quiet {s : State} {r : Request} {d : Domain} (hs : s.Quiet) : ¬ s.OfferedToRp r d := by
  obtain ⟨⟨-, -, hrp, hheld, -⟩, -⟩ := hs
  rintro (⟨h, rest, hqueue, -⟩ | ⟨q, hq, -⟩)
  · rw [State.replayQueue, hheld] at hqueue
    exact nomatch hqueue
  · rw [hrp] at hq
    exact nomatch hq

theorem stagedAt_of_quiet {s : State} (hs : s.Quiet) (w : Requester) : s.stagedAt w = none := by
  obtain ⟨⟨-, hstaging, hrp, -⟩, -⟩ := hs
  cases w with
  | cp p => exact hstaging p
  | rp => exact hrp

/-! ### The acts -/

theorem Act.admissionLaws {s t : State} (h : Act s t) (hs : s.AdmissionLaws) : t.AdmissionLaws := by
  have hsame := hs
  obtain ⟨⟨howner, hnode⟩, hnotified, hquiesce, hquiet⟩ := hs
  cases h with
  | arrive => exact admissionLaws_of_kept hsame rfl rfl rfl rfl id fun _ hq => quiet_updPort hq fun _ h => h
  | takeHead => exact admissionLaws_of_kept hsame rfl rfl rfl rfl id fun _ hq => quiet_updPort hq fun _ h => h
  | emptyQueue => exact admissionLaws_of_kept hsame rfl rfl rfl rfl id fun _ hq => quiet_updPort hq fun _ h => h
  | unstage => exact admissionLaws_of_kept hsame rfl rfl rfl rfl id fun _ hq => quiet_updPort hq fun _ _ => rfl
  | stage hoffered =>
    exact admissionLaws_of_kept hsame rfl rfl rfl rfl id fun hquiesced hq =>
      absurd hoffered (not_offered_of_quiet hquiesced hq)
  | join hoffered =>
    refine admissionLaws_of_kept hsame rfl rfl rfl rfl (fun hnone => ?_) fun hquiesced hq =>
      absurd hoffered (not_offered_of_quiet hquiesced hq)
    simp [joinMiss, hnone]
  | record hoffered hsome =>
    refine ⟨⟨howner, hnode⟩, fun hnone => absurd hnone hsome, hquiesce, fun hquiesced => ?_⟩
    exact absurd hoffered (not_offered_of_quiet hquiesced ((quiet_iff_empty s).1 (hquiet hquiesced)))
  | @grant w q i hstaged =>
    have hkept : (leaveStaging w (s.slotGranted w q i)).mc = s.mc ∧
        (leaveStaging w (s.slotGranted w q i)).mu.records = s.mu.records := by cases w <;> exact ⟨rfl, rfl⟩
    have hown : (leaveStaging w (s.slotGranted w q i)).ownNode = s.ownNode := by cases w <;> rfl
    refine admissionLaws_of_kept hsame hown ?_ ?_ ?_ (fun hnone => hkept.2.trans hnone) fun _ hq => ?_
    · rw [hkept.1]
    · rw [hkept.1]
    · rw [hkept.1]
    · rw [stagedAt_of_quiet hq] at hstaged
      exact nomatch hstaged
  | free hoccupied =>
    refine admissionLaws_of_kept hsame rfl rfl rfl rfl id fun _ hq => ?_
    rw [hq.1.1] at hoccupied
    exact nomatch hoccupied
  | forget t =>
    refine admissionLaws_of_kept hsame rfl rfl rfl rfl (fun hnone => ?_) fun _ hq => ?_
    · simp [freeRecord, hnone]
    · obtain ⟨⟨hort, hstaging, hrp, hheld, hrecords⟩, hfences⟩ := hq
      exact ⟨⟨hort, hstaging, hrp, by simp [freeRecord, hheld], by simp [freeRecord, hrecords]⟩, hfences⟩
  | retry t =>
    refine admissionLaws_of_kept hsame rfl rfl rfl rfl (fun hnone => ?_) fun _ hq => ?_
    · simp [retryRecord, hnone]
    · obtain ⟨⟨hort, hstaging, hrp, hheld, hrecords⟩, hfences⟩ := hq
      exact ⟨⟨hort, hstaging, hrp, by simp [retryRecord, State.heldOf, hheld], by simp [retryRecord, hrecords]⟩, hfences⟩
  | pop =>
    refine admissionLaws_of_kept hsame rfl rfl rfl rfl id fun _ hq => ?_
    obtain ⟨⟨hort, hstaging, -, hheld, hrecords⟩, hfences⟩ := hq
    exact ⟨⟨hort, hstaging, rfl, by simp [popReplay, hheld], hrecords⟩, hfences⟩
  | stageRp hoffered =>
    exact admissionLaws_of_kept hsame rfl rfl rfl rfl id fun _ hq => absurd hoffered (not_offeredToRp_of_quiet hq)
  | emptyMissUnit =>
    refine admissionLaws_of_kept hsame rfl rfl rfl rfl (fun _ => rfl) fun _ hq => ?_
    obtain ⟨⟨hort, hstaging, -⟩, hfences⟩ := hq
    exact ⟨⟨hort, hstaging, rfl, rfl, rfl⟩, hfences⟩
  | completeFence hdue =>
    refine admissionLaws_of_kept hsame rfl rfl rfl rfl id fun _ hq => ?_
    exact absurd (by simpa [FenceRec.due] using List.find?_some hdue) (hq.2 _ (List.mem_of_find?_eq_some hdue))
  | capture _ _ _ _ hoccupied =>
    exact admissionLaws_of_kept hsame rfl rfl rfl rfl id fun _ hq => absurd (occupiedSlots_eq_nil_iff.2 hq.1.1) hoccupied
  | regulate a hfrom hto hdrained howned =>
    refine ⟨⟨fun h => ?_, hnode⟩, hnotified, ?_, fun h => hdrained h⟩
    · exact howned (h.resolve_right hto)
    · exact ⟨fun h => absurd (hquiesce.1 h) hfrom, fun h => absurd h hto⟩
  | conclude status a hto hdrained howned =>
    rw [unquiesced_eq]
    refine ⟨⟨fun h => ?_, hnode⟩, hnotified, ?_, fun h => hdrained h⟩
    · exact howned (h.resolve_right hto)
    · exact ⟨nofun, fun h => absurd h hto⟩
  | drain e howned => exact ⟨⟨fun _ => howned, hnode⟩, hnotified, ⟨fun _ => rfl, fun _ => rfl⟩, nofun⟩
  | claim hnone hne =>
    exact ⟨⟨fun _ => rfl, fun h => hne (Option.some.inj h)⟩, nofun, hquiesce, hquiet⟩
  | relinquish hrecords hnone => exact admissionLaws_closed rfl rfl hnone hrecords
  | clear hclosed hrecords =>
    refine admissionLaws_closed hclosed rfl ?_ hrecords
    by_contra hsome
    have hdraining := hquiesce.1 (Option.isSome_iff_ne_none.2 hsome)
    rw [hclosed] at hdraining
    exact nomatch hdraining
  | bind p st b =>
    exact admissionLaws_of_kept hsame rfl rfl rfl rfl id fun _ hq =>
      quiet_mark (hits := ofStream p st) hq rfl (by simp [bindSlot]) rfl rfl rfl
  | setDomain d =>
    exact admissionLaws_of_kept hsame rfl rfl rfl rfl id fun _ hq =>
      quiet_mark (hits := ofDomain d) hq rfl (by simp [writeDomain]) rfl rfl rfl
  | place =>
    exact admissionLaws_of_kept hsame rfl rfl rfl rfl id fun _ hq =>
      quiet_mark hq rfl (fun p => by simp only [State.placed, Fin.getElem_fin, markStale_ports]) rfl rfl rfl
  | invalidate =>
    exact admissionLaws_of_kept hsame rfl rfl rfl rfl id fun _ hq =>
      quiet_mark hq rfl (fun p => by simp only [Machine.invalidate, Fin.getElem_fin, markStale_ports]) rfl rfl rfl
  | _ => exact hsame

/-- R48: a slot after the link of port `p` has gone DOWN. -/
def Slot.orphaned (p : Port) (sl : Slot) : Slot := if sl.occupied && sl.port == p then { sl with orphan := true } else sl

/-- R47 to R49: what a client link that goes DOWN leaves. -/
theorem clientDown_eq (p : Port) (s : State) : clientDown p s = { s with
    ports := s.ports.set p.val PortState.cleared p.isLt
    fu := { s.fu with ort := mapTable (Slot.orphaned p) s.fu.ort }
    mu := { s.mu with
      held := s.mu.held.filter fun h => h.req.port != p
      records := s.mu.records.filter fun m =>
        (s.mu.held.filter fun h => h.req.port != p).any fun h => h.place == .held m.ticket
      rp := s.mu.rp.filter fun q => q.req.port != p } } := by
  have hrp : (match s.mu.rp with
      | some q => if q.req.port = p then none else some q
      | none => none) = s.mu.rp.filter fun q => q.req.port != p := by
    cases s.mu.rp with
    | none => rfl
    | some q => by_cases hport : q.req.port = p <;> simp [Option.filter, hport]
  rw [← hrp]
  simp only [clientDown, removeHeld, orphanSlots, State.updPort]
  rfl

theorem LinkAct.admissionLaws {s t : State} (h : LinkAct s t) (hs : s.AdmissionLaws) : t.AdmissionLaws := by
  cases h with
  | startUp => exact admissionLaws_closed rfl rfl rfl rfl
  | assertReset => exact admissionLaws_closed rfl rfl rfl rfl
  | @portUp p =>
    rw [clientUp_eq]
    refine admissionLaws_of_kept hs rfl rfl rfl rfl id fun _ hq => ?_
    exact quiet_updPort (f := fun c => { c with link := .up, credits := 8 }) hq fun _ h => h
  | @portDown p =>
    rw [clientDown_eq]
    refine admissionLaws_of_kept hs rfl rfl rfl rfl (fun hnone => ?_) fun _ hq => ?_
    · simp only [hnone, List.filter_nil]
    · obtain ⟨⟨hort, hstaging, hrp, hheld, hrecords⟩, hfences⟩ := hq
      refine ⟨⟨fun i => ?_, fun q => ?_, ?_, ?_, ?_⟩, hfences⟩
      · simp only [Fin.getElem_fin, getElem_mapTable, Slot.orphaned]
        split
        · exact hort i
        · exact hort i
      · have hports := (quiet_updPort (p := p) (f := fun _ => PortState.cleared) ⟨⟨hort, hstaging, hrp, hheld, hrecords⟩,
          hfences⟩ fun _ _ => rfl).1.2.1
        exact hports q
      · simp only [hrp, Option.filter_none]
      · simp only [hheld, List.filter_nil]
      · simp only [hrecords, List.filter_nil]
  | fabricUp => exact hs
  | fabricLost =>
    rw [fabricLost_eq]
    exact admissionLaws_closed rfl rfl rfl rfl

theorem tickAll_mc (s : State) : (tickAll s).mc = s.mc := by simp only [tickAll]

theorem tickAll_ort (s : State) (i : SlotIndex) : (tickAll s).fu.ort[i] =
    if s.fu.ort[i].occupied then { s.fu.ort[i] with timer := lowered s.fu.ort[i].timer } else s.fu.ort[i] := by
  simp [tickAll]

theorem tickAll_occupied (s : State) (i : SlotIndex) : (tickAll s).fu.ort[i].occupied = s.fu.ort[i].occupied := by
  rw [tickAll_ort]
  split <;> rfl

theorem quiet_tickAll {s : State} (hs : s.Quiet) : (tickAll s).Quiet := by
  obtain ⟨⟨hort, hstaging, hrp, hheld, hrecords⟩, hfences⟩ := hs
  refine ⟨⟨fun i => ?_, fun p => ?_, ?_, ?_, ?_⟩, ?_⟩
  · rw [tickAll_occupied]
    exact hort i
  · rw [tickAll_ports]
    exact hstaging p
  · rw [tickAll_rp]
    exact hrp
  · rw [tickAll_held]
    exact hheld
  · rw [tickAll_records, hrecords]
    rfl
  · rw [tickAll_fences]
    exact hfences

/-- Settles O59, over the acts of a step. -/
theorem quiescedStaysQuiet : Obligations.QuiescedStaysQuiet := by
  intro s t howner hnotified hquiesce hquiet hstep
  refine step_keeps (P := State.AdmissionLaws) (fun u l h => ?_) (fun _ _ h => h.admissionLaws)
    (fun _ _ h => h.admissionLaws) (fun u h => ?_) (fun u _ h => ?_) ⟨howner, hnotified, hquiesce, hquiet⟩ hstep
  · exact h
  · have hown : (tickAll u).ownNode = u.ownNode := by rw [State.ownNode, State.ownNode, tickAll_strap]
    refine admissionLaws_of_kept h hown ?_ ?_ ?_ (fun hnone => ?_) fun _ hq => quiet_tickAll hq
    · rw [tickAll_mc]
    · rw [tickAll_mc]
    · rw [tickAll_mc]
    · rw [tickAll_records, hnone]
      rfl
  · exact h

end Sys2Proof.Machine
end

section
/-! PROOFS. No grant under an old translation (R8, R23, R30, R34, R36): each staged request that is not stale holds a
current translation, over the acts of a step. -/

namespace Sys2Proof.Machine

/-- R4 to R6: a translation stays current while its domain record and its entry, pinned field and hit flag apart, stay. -/
theorem current_of_entry {s t : State} {q : Staged} (hdomain : t.du.domains[q.domain] = s.du.domains[q.domain])
    {pinned hit : Bool} (hentry : t.tu.entries[q.entry] = { s.tu.entries[q.entry] with pinned := pinned, hit := hit })
    (hs : s.Current q) : t.Current q := by
  rw [State.Current, State.effective, hdomain, hentry]
  exact hs

theorem current_of_same {s t : State} {q : Staged} (hdomain : t.du.domains[q.domain] = s.du.domains[q.domain])
    (hentry : t.tu.entries[q.entry] = s.tu.entries[q.entry]) (hs : s.Current q) : t.Current q :=
  current_of_entry (pinned := s.tu.entries[q.entry].pinned) (hit := s.tu.entries[q.entry].hit) hdomain hentry hs

/-- R5, R6: what a lookup translates is current. -/
theorem current_of_lookup {s : State} {r : Request} {d : Domain} {node : Byte} {fa : FabricAddr} {i : EntryIndex}
    (hactive : s.du.domains[d].state = .active) (hhit : lookup d r.address r.kind s = .hitAllowed node fa i) :
    s.Current (stagedOf r d node fa i) := by
  unfold lookup at hhit
  split at hhit
  · exact nomatch hhit
  next j hmatching =>
    dsimp only at hhit
    split at hhit
    case isTrue hallows =>
      obtain ⟨rfl, rfl, rfl⟩ := Lookup.hitAllowed.inj hhit
      exact ⟨List.find?_some (p := fun i : EntryIndex => s.tu.entries[i].matchesAt d r.address) hmatching, rfl, rfl,
        hallows, hactive⟩
    case isFalse => exact nomatch hhit

/-- R8: staged requests of `t` that are not stale were staged in `s`, with translations that stay current. -/
theorem translationLaw_of_kept {s t : State} (hs : s.TranslationLaw)
    (hstaged : ∀ (p : Port) q, t.ports[p].staging = some q → q.stale = false →
      s.ports[p].staging = some q ∧ (s.Current q → t.Current q) ∧
        t.du.streams[p][q.req.stream] = s.du.streams[p][q.req.stream])
    (hrp : ∀ q, t.mu.rp = some q → q.stale = false → s.mu.rp = some q ∧ (s.Current q → t.Current q)) :
    t.TranslationLaw := by
  refine ⟨fun p q hq hfresh => ?_, fun q hq hfresh => ?_⟩
  · obtain ⟨hold, hcurrent, hstream⟩ := hstaged p q hq hfresh
    obtain ⟨hs, hbound⟩ := hs.1 p q hold hfresh
    exact ⟨hcurrent hs, hstream.trans hbound⟩
  · obtain ⟨hold, hcurrent⟩ := hrp q hq hfresh
    exact hcurrent (hs.2 q hold hfresh)

/-- A change of the ports that stages nothing keeps the law. -/
theorem translationLaw_of_ports {s t : State} (hs : s.TranslationLaw) (htu : t.tu = s.tu) (hdu : t.du = s.du)
    (hports : ∀ (p : Port) q, t.ports[p].staging = some q → s.ports[p].staging = some q)
    (hrp : ∀ q, t.mu.rp = some q → s.mu.rp = some q) : t.TranslationLaw := by
  have hcurrent (q : Staged) : s.Current q → t.Current q := current_of_same (by rw [hdu]) (by rw [htu])
  exact translationLaw_of_kept hs (fun p q hq _ => ⟨hports p q hq, hcurrent q, by rw [hdu]⟩)
    fun q hq _ => ⟨hrp q hq, hcurrent q⟩

theorem updPort_staging {p q : Port} {f : PortState → PortState} {s : State} {x : Staged}
    (hf : ∀ c, (f c).staging = some x → c.staging = some x) (hx : (s.updPort p f).ports[q].staging = some x) :
    s.ports[q].staging = some x := by
  by_cases hq : q = p
  · subst hq
    rw [State.updPort_ports_self] at hx
    exact hf _ hx
  · rwa [State.updPort_ports_ne _ _ _ _ hq] at hx

theorem translationLaw_updPort {s : State} (p : Port) {f : PortState → PortState} (hs : s.TranslationLaw)
    (hf : ∀ c x, (f c).staging = some x → c.staging = some x) : (s.updPort p f).TranslationLaw :=
  translationLaw_of_ports hs rfl rfl (fun _ q hq => updPort_staging (fun c => hf c q) hq) fun _ hq => hq

theorem translationLaw_unstage {s : State} (p : Port) (hs : s.TranslationLaw) : (s.setStaging p none).TranslationLaw :=
  translationLaw_updPort p hs fun _ _ h => nomatch h

/-! ### Marking -/

/-- A marked request that is not stale is one that the mark does not name. -/
theorem mark_fresh {hits : Staged → Bool} {o : Option Staged} {q : Staged} (h : o.map (Staged.mark hits) = some q)
    (hfresh : q.stale = false) : o = some q ∧ hits q = false := by
  obtain ⟨q', hq', rfl⟩ := Option.map_eq_some_iff.1 h
  cases hhits : hits q' with
  | true =>
    rw [Staged.mark, if_pos hhits] at hfresh
    exact nomatch hfresh
  | false =>
    have hsame : Staged.mark hits q' = q' := if_neg (by rw [hhits]; exact nofun)
    rw [hsame]
    exact ⟨hq', hhits⟩

/-- R23, R30, R34: a change of the tables behind which every staged request that it touches is marked stale. -/
theorem translationLaw_markStale {s u : State} {hits : Staged → Bool} (hs : s.TranslationLaw)
    (hports : u.ports = s.ports) (hrp : u.mu.rp = s.mu.rp)
    (hcurrent : ∀ q, hits q = false → s.Current q → u.Current q)
    (hstream : ∀ (p : Port) q, s.ports[p].staging = some q → hits q = false →
      u.du.streams[p][q.req.stream] = s.du.streams[p][q.req.stream]) : (markStale hits u).TranslationLaw := by
  refine translationLaw_of_kept hs (fun p q hq hfresh => ?_) fun q hq hfresh => ?_
  · simp only [Fin.getElem_fin, markStale_ports, hports] at hq
    obtain ⟨hold, hmiss⟩ := mark_fresh hq hfresh
    exact ⟨hold, hcurrent q hmiss, hstream p q hold hmiss⟩
  · rw [markStale_rp, hrp] at hq
    obtain ⟨hold, hmiss⟩ := mark_fresh hq hfresh
    exact ⟨hold, hcurrent q hmiss⟩

/-! ### The acts -/

/-- R7: the table after a hit flag is set. -/
theorem setHit_entries (i j : EntryIndex) (s : State) :
    ∃ hit, (setHit i s).tu.entries[j] = { s.tu.entries[j] with pinned := s.tu.entries[j].pinned, hit := hit } := by
  simp only [setHit, Fin.getElem_fin, State.updEntry_entries]
  split
  case isTrue h => exact ⟨true, by simp only [h]⟩
  case isFalse => exact ⟨s.tu.entries[j].hit, rfl⟩

theorem current_setHit {i : EntryIndex} {s t : State} {q : Staged} (htu : t.tu = (setHit i s).tu) (hdu : t.du = s.du)
    (hs : s.Current q) : t.Current q := by
  obtain ⟨hit, hentry⟩ := setHit_entries i q.entry s
  exact current_of_entry (by rw [hdu]) (by rw [htu]; exact hentry) hs

theorem translationLaw_place {i : EntryIndex} {a : InstallArgs} {s : State} (hs : s.TranslationLaw) :
    (s.placed i a).TranslationLaw := by
  refine translationLaw_markStale hs rfl rfl (fun q hmiss hcurrent => ?_) fun _ _ _ _ => rfl
  have hne : i.val ≠ q.entry.val := fun e => of_decide_eq_false hmiss (Fin.ext e.symm)
  exact current_of_same (s := s) rfl (by simp [hne]) hcurrent

theorem translationLaw_invalidate {sel : EntryIndex → Entry → Bool} {s : State} (hs : s.TranslationLaw) :
    (invalidate sel s).TranslationLaw := by
  refine translationLaw_markStale hs rfl rfl (fun q hmiss hcurrent => ?_) fun _ _ _ _ => rfl
  have hout : ¬ (s.tu.entries[q.entry].valid && sel q.entry s.tu.entries[q.entry]) = true := by
    simpa [State.named] using hmiss
  refine current_of_same (s := s) rfl ?_ hcurrent
  simp only [Fin.getElem_fin, Vector.getElem_ofFn, Fin.eta]
  exact if_neg hout

theorem translationLaw_bind {p : Port} {st : Stream} {b : Option Domain} {s : State} (hs : s.TranslationLaw)
    (hcredit : s.CreditLaw) : (bindSlot p st b s).TranslationLaw := by
  refine translationLaw_markStale hs rfl rfl (fun q _ hcurrent => hcurrent) fun p' q hq hmiss => ?_
  have hport := (hcredit p').2.2 q hq
  have hstream := bindSlot_streams p p' st q.req.stream b s
  have hother : ¬ (p' = p ∧ q.req.stream = st) := fun ⟨hp, hst⟩ => by
    simp [ofStream, hport, hp, hst] at hmiss
  rw [if_neg hother] at hstream
  exact hstream

theorem translationLaw_setDomain {d : Domain} {r : DomainRec} {s : State} (hs : s.TranslationLaw) :
    (writeDomain d r s).TranslationLaw := by
  refine translationLaw_markStale hs rfl rfl (fun q hmiss hcurrent => ?_) fun _ _ _ _ => rfl
  have hdomain := writeDomain_domains d q.domain r s
  rw [if_neg (by simpa [ofDomain] using hmiss)] at hdomain
  exact current_of_same (s := s) hdomain rfl hcurrent

/-- R8 with R45. -/
abbrev State.StagedLaws (s : State) : Prop := s.CreditLaw ∧ s.TranslationLaw

theorem Act.translationLaw {s t : State} (h : Act s t) (hcredit : s.CreditLaw) (hs : s.TranslationLaw) :
    t.TranslationLaw := by
  cases h with
  | arrive => exact translationLaw_updPort _ hs fun _ _ h => h
  | takeHead => exact translationLaw_updPort _ hs fun _ _ h => h
  | emptyQueue => exact translationLaw_updPort _ hs fun _ _ h => h
  | unstage p => exact translationLaw_unstage p hs
  | @stage p r d node fa i _ hbound hactive hhit =>
    refine ⟨fun p' q hq hfresh => ?_, fun q hq hfresh => current_setHit (i := i) rfl rfl (hs.2 q hq hfresh)⟩
    by_cases hp : p' = p
    · subst hp
      rw [State.setStaging, State.updPort_ports_self] at hq
      obtain rfl := Option.some.inj hq
      exact ⟨current_setHit (i := i) rfl rfl (current_of_lookup hactive hhit), hbound⟩
    · rw [State.setStaging, State.updPort_ports_ne _ _ _ _ hp] at hq
      obtain ⟨hcurrent, hstream⟩ := hs.1 p' q hq hfresh
      exact ⟨current_setHit (i := i) rfl rfl hcurrent, hstream⟩
  | @join p => exact translationLaw_unstage p hs
  | @record p => exact translationLaw_unstage p hs
  | @grant w q i => cases w with
    | cp p => exact translationLaw_unstage (s := s.slotGranted (.cp p) q i) p hs
    | rp => exact ⟨hs.1, nofun⟩
  | pop => exact ⟨hs.1, nofun⟩
  | @stageRp r d node fa i _ hactive hhit =>
    refine ⟨fun p q hq hfresh => ?_, fun q hq _ => ?_⟩
    · obtain ⟨hcurrent, hstream⟩ := hs.1 p q hq hfresh
      exact ⟨current_setHit (i := i) rfl rfl hcurrent, hstream⟩
    · obtain rfl := Option.some.inj hq
      exact current_setHit (i := i) rfl rfl (current_of_lookup hactive hhit)
  | emptyMissUnit => exact ⟨hs.1, nofun⟩
  | conclude =>
    rw [unquiesced_eq]
    exact hs
  | clear _ _ hrp hstaging =>
    refine ⟨fun p q hq _ => ?_, fun q hq _ => ?_⟩
    · have hempty : s.ports[p].staging = none := by
        cases hlink : s.ports[p].link with
        | up => exact hstaging p hlink
        | down => rw [(hcredit p).2.1 hlink]; rfl
      exact nomatch hempty.symm.trans hq
    · exact nomatch hrp.symm.trans hq
  | bind => exact translationLaw_bind hs hcredit
  | setDomain => exact translationLaw_setDomain hs
  | place => exact translationLaw_place hs
  | @sweep es clock hes =>
    refine translationLaw_of_kept hs (fun p q hq _ => ⟨hq, fun hcurrent => ?_, rfl⟩) fun q hq _ => ⟨hq, fun hcurrent => ?_⟩
    all_goals
      obtain heq | heq := hes q.entry
      · exact current_of_same (s := s) rfl heq hcurrent
      · exact current_of_entry (s := s) (pinned := s.tu.entries[q.entry].pinned) (hit := false) rfl heq hcurrent
  | @pin i on =>
    have hentry (j : EntryIndex) : ∃ pinned, (s.pinnedTo i on).tu.entries[j] =
        { s.tu.entries[j] with pinned := pinned, hit := s.tu.entries[j].hit } := by
      simp only [State.pinnedTo, Fin.getElem_fin, State.updEntry_entries]
      split
      case isTrue h => exact ⟨on, by simp only [h]⟩
      case isFalse => exact ⟨s.tu.entries[j].pinned, rfl⟩
    refine translationLaw_of_kept hs (fun p q hq _ => ⟨hq, fun hcurrent => ?_, rfl⟩) fun q hq _ => ⟨hq, fun hcurrent => ?_⟩
    all_goals
      obtain ⟨pinned, hsame⟩ := hentry q.entry
      exact current_of_entry (s := s) rfl hsame hcurrent
  | invalidate => exact translationLaw_invalidate hs
  | _ => exact hs

theorem translationLaw_dark {u : State} (hports : u.ports = Vector.replicate 4 PortState.cleared) (hrp : u.mu.rp = none) :
    u.TranslationLaw := by
  refine ⟨fun p q hq _ => ?_, fun q hq _ => ?_⟩
  · have hempty : u.ports[p].staging = none := by simp [hports, PortState.cleared]
    exact nomatch hempty.symm.trans hq
  · exact nomatch hrp.symm.trans hq

theorem LinkAct.translationLaw {s t : State} (h : LinkAct s t) (hs : s.TranslationLaw) : t.TranslationLaw := by
  cases h with
  | startUp => exact translationLaw_dark rfl rfl
  | assertReset => exact translationLaw_dark rfl rfl
  | @portUp p =>
    rw [clientUp_eq]
    exact translationLaw_updPort (f := fun c => { c with link := .up, credits := 8 }) p hs fun _ _ h => h
  | @portDown p =>
    rw [clientDown_eq]
    refine translationLaw_of_ports hs rfl rfl (fun q x hx => ?_) fun x hx => (Option.filter_eq_some_iff.1 hx).1
    exact updPort_staging (p := p) (q := q) (f := fun _ => PortState.cleared) (fun _ h => nomatch h) hx
  | fabricUp => exact hs
  | fabricLost =>
    rw [fabricLost_eq]
    refine translationLaw_of_ports hs rfl rfl (fun p q hq => ?_) nofun
    simp only [Fin.getElem_fin, getElem_mapTable, PortState.afterLoss] at hq
    split at hq
    · exact nomatch hq
    · exact hq

theorem tickAll_du (s : State) : (tickAll s).du = s.du := by simp only [tickAll]

/-- Settles O56, with the credit law at its side, over the acts of a step. -/
theorem translationsStayCurrent : Obligations.TranslationsStayCurrent := by
  intro s t hcredit hs hstep
  refine (step_keeps (P := State.StagedLaws) (fun u l h => ?_) (fun _ _ h hu => ⟨h.creditLaw hu.1, h.translationLaw hu.2⟩)
    (fun _ _ h hu => ⟨h.creditLaw hu.1, h.translationLaw hu.1 hu.2⟩) (fun u h => ?_) (fun u _ h => ?_)
    ⟨hcredit, hs⟩ hstep).2
  · exact h
  · refine ⟨fun p => ?_, translationLaw_of_ports h.2 (tickAll_tu u) (tickAll_du u) (fun p q hq => ?_) fun q hq => ?_⟩
    · rw [tickAll_ports]
      exact h.1 p
    · rwa [tickAll_ports] at hq
    · rwa [tickAll_rp] at hq
  · exact h

end Sys2Proof.Machine
end

section
/-! PROOFS. The invariants of the Fence List, the upstream timers and the replay cache (R118, R124, R133, R135), and what a
step leaves of a fence record that outlasts it. -/

namespace Sys2Proof.Machine

/-- R118, R124, R133: the laws of the fences, the timers and the cache together. -/
abbrev State.DeferredLaws (s : State) : Prop := s.FenceLaw ∧ s.TimerLaw ∧ s.CacheLaw

/-! ### The laws, block by block -/

theorem fenceLaw_empty {t : State} (hfences : t.fu.fences = []) : t.FenceLaw := by
  rw [State.FenceLaw, hfences]
  exact ⟨Nat.zero_le _, .nil, nofun⟩

/-- A change of the slots that frees none keeps the law of the fences. -/
theorem fenceLaw_of_ort {s t : State} (hs : s.FenceLaw) (hfences : t.fu.fences = s.fu.fences)
    (hnext : t.fu.nextFence = s.fu.nextFence)
    (hort : ∀ i : SlotIndex, s.fu.ort[i].occupied = true → t.fu.ort[i].occupied = true) : t.FenceLaw := by
  obtain ⟨hlength, hids, hall⟩ := hs
  rw [State.FenceLaw, hfences, hnext]
  refine ⟨hlength, hids, fun f hf => ?_⟩
  obtain ⟨hid, hnodup, hcaptured⟩ := hall f hf
  exact ⟨hid, hnodup, fun i hi => hort i (hcaptured i hi)⟩

theorem fenceLaw_free {s : State} (i : SlotIndex) (hs : s.FenceLaw) : (freeSlot i s).FenceLaw := by
  obtain ⟨hlength, hids, hall⟩ := hs
  refine ⟨by rw [freeSlot_fences, List.length_map]; exact hlength, ?_, fun f hf => ?_⟩
  · rw [freeSlot_fences, List.map_map]
    exact hids
  · rw [freeSlot_fences] at hf
    obtain ⟨f', hf', rfl⟩ := List.mem_map.1 hf
    obtain ⟨hid, hnodup, hcaptured⟩ := hall f' hf'
    refine ⟨hid, hnodup.filter _, fun j hj => ?_⟩
    obtain ⟨hj, hne⟩ := List.mem_filter.1 hj
    rw [freeSlot_ort_freed, if_neg (by simpa using hne)]
    exact hcaptured j hj

theorem occupiedSlots_nodup (s : State) : s.occupiedSlots.Nodup := (List.nodup_finRange 32).filter _

theorem fenceLaw_capture {s : State} (cmd : FenceCommand) (c : Command) (count : Nat) (hs : s.FenceLaw)
    (hroom : s.fu.fences.length < Config.fenceCapacity) : (s.fenced cmd c count).FenceLaw := by
  obtain ⟨-, hids, hall⟩ := hs
  refine ⟨?_, ?_, fun f hf => ?_⟩
  · simp only [State.fenced, List.length_append, List.length_singleton]
    omega
  · simp only [State.fenced, List.map_append, List.map_singleton]
    refine List.nodup_append.2 ⟨hids, List.nodup_singleton _, fun x hx y hy hxy => ?_⟩
    obtain ⟨f, hf, rfl⟩ := List.mem_map.1 hx
    rw [List.mem_singleton.1 hy] at hxy
    exact absurd (hall f hf).1 (by omega)
  · obtain hold | hnew := List.mem_append.1 hf
    · obtain ⟨hid, hrest⟩ := hall f hold
      exact ⟨Nat.lt_succ_of_lt hid, hrest⟩
    · rw [List.mem_singleton.1 hnew]
      refine ⟨Nat.lt_succ_self _, occupiedSlots_nodup s, fun i hi => ?_⟩
      exact (List.mem_filter.1 hi).2

/-- R122: the record that is replied to, in its place in the Fence List. -/
theorem unfenced_fences {f : FenceRec} {s : State} (hdue : s.fu.fences.find? FenceRec.due = some f) :
    ∃ before after, s.fu.fences = before ++ f :: after ∧ (s.unfenced f).fu.fences = before ++ after := by
  obtain ⟨hf, before, after, hfences, hbefore⟩ := List.find?_eq_some_iff_append.1 hdue
  refine ⟨before, after, hfences, ?_⟩
  show s.fu.fences.eraseP FenceRec.due = _
  rw [hfences, List.eraseP_append_right _ (fun g hg => by simpa using hbefore g hg), List.eraseP_cons_of_pos hf]

theorem fenceLaw_unfenced {f : FenceRec} {s : State} (hs : s.FenceLaw)
    (hdue : s.fu.fences.find? FenceRec.due = some f) : (s.unfenced f).FenceLaw := by
  obtain ⟨hlength, hids, hall⟩ := hs
  obtain ⟨before, after, hfences, herased⟩ := unfenced_fences hdue
  have hsub : (s.unfenced f).fu.fences.Sublist s.fu.fences := by
    rw [herased, hfences]
    exact (List.sublist_cons_self ..).append_left before
  exact ⟨hsub.length_le.trans hlength, hids.sublist (hsub.map _), fun g hg => hall g (hsub.mem hg)⟩

theorem timerLaw_of_free {t : State} (hfree : ∀ i : SlotIndex, t.fu.ort[i].occupied = false) : t.TimerLaw :=
  fun i hi => nomatch (hfree i).symm.trans hi

theorem cacheLaw_none {t : State} (hcache : t.mc.cache = none) : t.CacheLaw :=
  fun _ he => nomatch hcache.symm.trans he

/-- A change that keeps the names of the fence records, and the pending QUIESCE, keeps the law of the cache. -/
theorem cacheLaw_of_fences {s t : State} (hs : s.CacheLaw) (hown : t.ownNode = s.ownNode)
    (hcache : t.mc.cache = s.mc.cache) (hquiesce : t.mc.quiesce = s.mc.quiesce)
    (hfences : ∀ f ∈ s.fu.fences, ∃ g ∈ t.fu.fences,
      g.id = f.id ∧ g.node = f.node ∧ g.sequence = f.sequence ∧ g.command = f.command) : t.CacheLaw := by
  intro e he
  obtain ⟨hnode, hfence, hdrain⟩ := hs e (hcache ▸ he)
  refine ⟨hown ▸ hnode, fun id hid => ?_, fun hq => ?_⟩
  · obtain ⟨f, hf, h1, h2, h3, h4⟩ := hfence id hid
    obtain ⟨g, hg, g1, g2, g3, g4⟩ := hfences f hf
    exact ⟨g, hg, g1.trans h1, g2.trans h2, g3.trans h3, by rw [g4]; exact h4⟩
  · rw [hquiesce]
    exact hdrain hq

theorem cacheLaw_unfenced {f : FenceRec} {s : State} (hs : s.CacheLaw)
    (hdue : s.fu.fences.find? FenceRec.due = some f) : (s.unfenced f).CacheLaw := by
  obtain ⟨before, after, hfences, herased⟩ := unfenced_fences hdue
  intro e he
  obtain ⟨e', he', rfl⟩ := Option.map_eq_some_iff.1 he
  obtain ⟨hnode, hfence, hdrain⟩ := hs e' he'
  by_cases hname : e'.answer = .pendingFence f.id
  · have hsettled : CacheEntry.settled (.pendingFence f.id) .ok [numByte f.count] e' =
        { e' with answer := .stored .ok [numByte f.count] } := if_pos hname
    rw [hsettled]
    exact ⟨hnode, nofun, nofun⟩
  · have hsettled : CacheEntry.settled (.pendingFence f.id) .ok [numByte f.count] e' = e' := if_neg hname
    rw [hsettled]
    refine ⟨hnode, fun id hid => ?_, hdrain⟩
    obtain ⟨g, hg, hgid, hrest⟩ := hfence id hid
    refine ⟨g, ?_, hgid, hrest⟩
    rw [hfences] at hg
    rw [herased]
    obtain hbefore | hafter := List.mem_append.1 hg
    · exact List.mem_append_left _ hbefore
    · obtain rfl | hafter := List.mem_cons.1 hafter
      · exact absurd (hgid ▸ hid) hname
      · exact List.mem_append_right _ hafter

theorem cacheLaw_unquiesced {s : State} (status : ReplyStatus) (a : Admission) (hs : s.CacheLaw) :
    ((s.unquiesced status).setAdmission a).CacheLaw := by
  rw [unquiesced_eq]
  intro e he
  cases hquiesce : s.mc.quiesce with
  | none =>
    rw [if_pos hquiesce] at he
    obtain ⟨hnode, hfence, hdrain⟩ := hs e he
    refine ⟨hnode, hfence, fun hq => ?_⟩
    obtain ⟨-, hsome⟩ := hdrain hq
    exact nomatch hquiesce.symm.trans hsome
  | some q =>
    rw [if_neg (by rw [hquiesce]; exact nofun)] at he
    obtain ⟨e', he', rfl⟩ := Option.map_eq_some_iff.1 he
    obtain ⟨hnode, hfence, -⟩ := hs e' he'
    by_cases hname : e'.answer = .pendingQuiesce
    · have hsettled : CacheEntry.settled .pendingQuiesce status [] e' = { e' with answer := .stored status [] } :=
        if_pos hname
      rw [hsettled]
      exact ⟨hnode, nofun, nofun⟩
    · have hsettled : CacheEntry.settled .pendingQuiesce status [] e' = e' := if_neg hname
      rw [hsettled]
      exact ⟨hnode, hfence, fun hq => absurd hq hname⟩

/-! ### The acts -/

theorem slotGranted_ort (w : Requester) (q : Staged) (i j : SlotIndex) (s : State) :
    (s.slotGranted w q i).fu.ort[j] =
      if j = i then grantedSlot q s.fu.ort[i].incarnation s.tb.upstreamTimeout else s.fu.ort[j] := by
  simp [State.slotGranted, Vector.getElem_set, Fin.ext_iff, eq_comm]

theorem leaveStaging_fu (w : Requester) (s : State) : (leaveStaging w s).fu = s.fu := by
  cases w <;> rfl

theorem leaveStaging_mc (w : Requester) (s : State) : (leaveStaging w s).mc = s.mc := by
  cases w <;> rfl

theorem leaveStaging_tb (w : Requester) (s : State) : (leaveStaging w s).tb = s.tb := by
  cases w <;> rfl

theorem fenceLaw_grant {w : Requester} {q : Staged} {i : SlotIndex} {s : State} (hs : s.FenceLaw) :
    (leaveStaging w (s.slotGranted w q i)).FenceLaw := by
  refine fenceLaw_of_ort hs (by rw [leaveStaging_fu]; rfl) (by rw [leaveStaging_fu]; rfl) fun j hj => ?_
  rw [leaveStaging_fu, slotGranted_ort]
  split
  · rfl
  · exact hj

theorem Act.fenceLaw {s t : State} (h : Act s t) (hs : s.FenceLaw) : t.FenceLaw := by
  cases h with
  | grant => exact fenceLaw_grant hs
  | free => exact fenceLaw_free _ hs
  | completeFence hdue => exact fenceLaw_unfenced hs hdue
  | capture cmd c count hroom => exact fenceLaw_capture cmd c count hs hroom
  | conclude =>
    rw [unquiesced_eq]
    exact hs
  | _ => exact hs

theorem deferredLaws_grant {w : Requester} {q : Staged} {i : SlotIndex} {s : State} (hs : s.DeferredLaws) :
    (leaveStaging w (s.slotGranted w q i)).DeferredLaws := by
  obtain ⟨hfence, htimer, hcache⟩ := hs
  refine ⟨fenceLaw_grant hfence, fun j hj => ?_, ?_⟩
  · rw [leaveStaging_fu, slotGranted_ort] at hj ⊢
    rw [leaveStaging_tb]
    split at hj
    case isTrue h =>
      rw [if_pos h]
      exact le_rfl
    case isFalse h =>
      rw [if_neg h]
      exact htimer j hj
  · have hown : (leaveStaging w (s.slotGranted w q i)).ownNode = s.ownNode := by
      rw [State.ownNode, leaveStaging_strap]
      rfl
    refine cacheLaw_of_fences hcache hown (by rw [leaveStaging_mc]; rfl) (by rw [leaveStaging_mc]; rfl) fun f hf => ?_
    rw [leaveStaging_fu]
    exact ⟨f, hf, rfl, rfl, rfl, rfl⟩

theorem deferredLaws_free {i : SlotIndex} {s : State} (hs : s.DeferredLaws) : (freeSlot i s).DeferredLaws := by
  obtain ⟨hfence, htimer, hcache⟩ := hs
  refine ⟨fenceLaw_free i hfence, fun j hj => ?_, ?_⟩
  · rw [freeSlot_ort_freed] at hj ⊢
    split at hj
    · exact nomatch hj
    case isFalse h =>
      rw [if_neg h]
      exact htimer j hj
  · refine cacheLaw_of_fences hcache rfl rfl rfl fun f hf => ?_
    rw [freeSlot_fences]
    exact ⟨_, List.mem_map_of_mem hf, rfl, rfl, rfl, rfl⟩

theorem Act.deferredLaws {s t : State} (h : Act s t) (hs : s.DeferredLaws) : t.DeferredLaws := by
  have hsame := hs
  obtain ⟨hfence, htimer, hcache⟩ := hs
  cases h with
  | enter hnode hnamed =>
    refine ⟨hfence, htimer, fun e he => ?_⟩
    obtain rfl := Option.some.inj he
    exact ⟨hnode, hnamed.1, fun hq => absurd hq hnamed.2⟩
  | grant => exact deferredLaws_grant hsame
  | free => exact deferredLaws_free hsame
  | completeFence hdue => exact ⟨fenceLaw_unfenced hfence hdue, htimer, cacheLaw_unfenced hcache hdue⟩
  | capture cmd c count hroom =>
    refine ⟨fenceLaw_capture cmd c count hfence hroom, htimer, cacheLaw_of_fences hcache rfl rfl rfl fun f hf => ?_⟩
    exact ⟨f, List.mem_append_left _ hf, rfl, rfl, rfl, rfl⟩
  | conclude status a =>
    refine ⟨?_, ?_, cacheLaw_unquiesced status a hcache⟩
    · rw [unquiesced_eq]
      exact hfence
    · rw [unquiesced_eq]
      exact htimer
  | drain e _ hnode hanswer hcode =>
    refine ⟨hfence, htimer, fun e' he => ?_⟩
    obtain rfl := Option.some.inj he
    refine ⟨hnode, fun id hid => ?_, fun _ => ⟨hcode, rfl⟩⟩
    exact nomatch hanswer.symm.trans hid
  | clear _ _ _ _ hfree => exact ⟨hfence, timerLaw_of_free hfree, hcache⟩
  | setTiming _ _ hfree => exact ⟨hfence, timerLaw_of_free hfree, hcache⟩
  | _ => exact hsame

theorem slot_orphaned (p : Port) (sl : Slot) :
    (sl.orphaned p).occupied = sl.occupied ∧ (sl.orphaned p).timer = sl.timer := by
  unfold Slot.orphaned
  split <;> exact ⟨rfl, rfl⟩

theorem LinkAct.deferredLaws {s t : State} (h : LinkAct s t) (hs : s.DeferredLaws) : t.DeferredLaws := by
  cases h with
  | startUp =>
    refine ⟨fenceLaw_empty rfl, timerLaw_of_free fun i => ?_, cacheLaw_none rfl⟩
    simp [Machine.startUp, State.reset, ForwardUnit.cleared, Slot.cleared]
  | assertReset =>
    refine ⟨fenceLaw_empty rfl, timerLaw_of_free fun i => ?_, cacheLaw_none rfl⟩
    simp [Machine.assertReset]
  | portUp =>
    rw [clientUp_eq]
    exact hs
  | @portDown p =>
    rw [clientDown_eq]
    obtain ⟨hfence, htimer, hcache⟩ := hs
    refine ⟨fenceLaw_of_ort hfence rfl rfl fun i hi => ?_, fun i hi => ?_, hcache⟩
    · simp only [Fin.getElem_fin, getElem_mapTable, slot_orphaned]
      exact hi
    · simp only [Fin.getElem_fin, getElem_mapTable, slot_orphaned] at hi ⊢
      exact htimer i hi
  | fabricUp => exact hs
  | fabricLost =>
    rw [fabricLost_eq]
    refine ⟨fenceLaw_empty rfl, timerLaw_of_free fun i => ?_, cacheLaw_none rfl⟩
    simp only [Fin.getElem_fin, getElem_mapTable]
    rfl

theorem lowered_toNat (t : Byte) : (lowered t).toNat = t.toNat - 1 := by
  unfold lowered
  split
  case isTrue h => simp [h]
  case isFalse h =>
    have hpos : t.toNat ≠ 0 := fun h0 => h (BitVec.eq_of_toNat_eq h0)
    bv_omega

theorem deferredLaws_tickAll {s : State} (hs : s.DeferredLaws) : (tickAll s).DeferredLaws := by
  obtain ⟨hfence, htimer, hcache⟩ := hs
  have hown : (tickAll s).ownNode = s.ownNode := by rw [State.ownNode, State.ownNode, tickAll_strap]
  refine ⟨fenceLaw_of_ort hfence (tickAll_fences s) (by simp only [tickAll]) fun i hi => ?_, fun i hi => ?_, ?_⟩
  · rw [tickAll_occupied]
    exact hi
  · rw [tickAll_occupied] at hi
    have hlow := htimer i hi
    rw [tickAll_ort, if_pos hi]
    simp only [tickAll, lowered_toNat]
    omega
  · refine cacheLaw_of_fences hcache hown (by rw [tickAll_mc]) (by rw [tickAll_mc]) fun f hf => ?_
    rw [tickAll_fences]
    exact ⟨f, hf, rfl, rfl, rfl, rfl⟩

theorem deferredLaws_step {s t : State} (hs : s.DeferredLaws) (h : step s = .next t) : t.DeferredLaws := by
  refine step_keeps (P := State.DeferredLaws) (fun u l h => ?_) (fun _ _ h => h.deferredLaws) (fun _ _ h => h.deferredLaws)
    (fun u h => deferredLaws_tickAll h) (fun u _ h => ?_) hs h
  · exact h
  · exact h

/-! ### What is left of a record -/

/-- R118, R120: a record of `t` is one made since `s`, or one of `s` that captures no slot it did not capture, the
remaining count of each slot it captures being as it was. -/
def FenceRec.Follows (g : FenceRec) (s t : State) : Prop :=
  s.fu.nextFence ≤ g.id ∨ ∃ f ∈ s.fu.fences, f.id = g.id ∧
    ∀ i ∈ g.captured, i ∈ f.captured ∧ t.fu.ort[i].timer = s.fu.ort[i].timer

/-- The fence records of `t` follow those of `s`. -/
abbrev Follow (s t : State) : Prop := ∀ g ∈ t.fu.fences, g.Follows s t

theorem follow_of_fences {s t : State} (hfences : ∀ g ∈ t.fu.fences, g ∈ s.fu.fences)
    (htimer : ∀ g ∈ s.fu.fences, ∀ i ∈ g.captured, t.fu.ort[i].timer = s.fu.ort[i].timer) : Follow s t := fun g hg =>
  .inr ⟨g, hfences g hg, rfl, fun i hi => ⟨hi, htimer g (hfences g hg) i hi⟩⟩

theorem follow_refl (s : State) : Follow s s := follow_of_fences (fun _ h => h) fun _ _ _ _ => rfl

theorem Follow.trans {s t u : State} (hst : Follow s t) (htu : Follow t u) (hnext : s.fu.nextFence ≤ t.fu.nextFence) :
    Follow s u := by
  intro g hg
  obtain hnew | ⟨f, hf, hid, hcaptured⟩ := htu g hg
  · exact .inl (hnext.trans hnew)
  · obtain hnew | ⟨f', hf', hid', hcaptured'⟩ := hst f hf
    · exact .inl (hid ▸ hnew)
    · refine .inr ⟨f', hf', hid'.trans hid, fun i hi => ?_⟩
      obtain ⟨hi, htimer⟩ := hcaptured i hi
      obtain ⟨hi', htimer'⟩ := hcaptured' i hi
      exact ⟨hi', htimer.trans htimer'⟩

theorem Act.follow {s t : State} (h : Act s t) (hs : s.FenceLaw) : Follow s t ∧ s.fu.nextFence ≤ t.fu.nextFence := by
  have hsame {u : State} (hu : u.fu = s.fu) : Follow s u ∧ s.fu.nextFence ≤ u.fu.nextFence := by
    refine ⟨follow_of_fences (fun g hg => by rwa [hu] at hg) fun _ _ _ _ => by rw [hu], by rw [hu]⟩
  cases h with
  | @grant w q i _ hfree =>
    refine ⟨follow_of_fences (fun g hg => ?_) fun g hg j hj => ?_, by rw [leaveStaging_fu]; exact le_rfl⟩
    · rw [leaveStaging_fu] at hg
      exact hg
    · have hocc := (hs.2.2 g hg).2.2 j hj
      rw [leaveStaging_fu, slotGranted_ort, if_neg]
      rintro rfl
      exact nomatch hfree.symm.trans hocc
  | @free i =>
    refine ⟨fun g hg => ?_, le_rfl⟩
    rw [freeSlot_fences] at hg
    obtain ⟨f, hf, rfl⟩ := List.mem_map.1 hg
    refine .inr ⟨f, hf, rfl, fun j hj => ⟨(List.mem_filter.1 hj).1, ?_⟩⟩
    rw [freeSlot_ort_freed]
    split <;> rfl
  | completeFence hdue =>
    obtain ⟨before, after, hfences, herased⟩ := unfenced_fences hdue
    refine ⟨follow_of_fences (fun g hg => ?_) fun _ _ _ _ => rfl, le_rfl⟩
    rw [herased] at hg
    rw [hfences]
    exact ((List.sublist_cons_self ..).append_left before).mem hg
  | capture cmd c count =>
    refine ⟨fun g hg => ?_, Nat.le_succ _⟩
    obtain hold | hnew := List.mem_append.1 hg
    · exact .inr ⟨g, hold, rfl, fun i hi => ⟨hi, rfl⟩⟩
    · rw [List.mem_singleton.1 hnew]
      exact .inl le_rfl
  | conclude =>
    rw [unquiesced_eq]
    exact hsame rfl
  | clear => exact ⟨follow_of_fences (fun _ h => h) fun _ _ _ _ => rfl, le_rfl⟩
  | _ => exact hsame rfl

theorem Acts.follow {s t : State} (h : Acts s t) (hs : s.FenceLaw) :
    Follow s t ∧ s.fu.nextFence ≤ t.fu.nextFence ∧ t.FenceLaw := by
  induction h with
  | refl => exact ⟨follow_refl s, le_rfl, hs⟩
  | tail _ hact ih =>
    obtain ⟨hfollow, hnext, hlaw⟩ := ih
    obtain ⟨hlast, hstep⟩ := hact.follow hlaw
    exact ⟨hfollow.trans hlast hnext, hnext.trans hstep, hact.fenceLaw hlaw⟩

theorem LinkAct.follow {s t : State} (h : LinkAct s t) : Follow s t := by
  cases h with
  | startUp => exact nofun
  | assertReset => exact nofun
  | portUp =>
    rw [clientUp_eq]
    exact follow_of_fences (fun _ h => h) fun _ _ _ _ => rfl
  | @portDown p =>
    rw [clientDown_eq]
    refine follow_of_fences (fun _ h => h) fun _ _ i _ => ?_
    simp only [Fin.getElem_fin, getElem_mapTable, slot_orphaned]
  | fabricUp => exact follow_of_fences (fun _ h => h) fun _ _ _ _ => rfl
  | fabricLost =>
    rw [fabricLost_eq]
    exact nofun

/-! ### The tick -/

theorem expireSlot_fu (i : SlotIndex) (s : State) : (expireSlot i s).fu = (freeSlot i s).fu := by
  have hfree {u : State} (hu : u.fu = s.fu) : (freeSlot i u).fu = (freeSlot i s).fu := by
    simp only [freeSlot, State.updSlot, hu]
  unfold expireSlot
  refine hfree ?_
  split
  · exact refuseSlot_fu ..
  · exact refuseSlot_fu ..
  · exact logFault_fu ..

/-- R79: what a slot is after the expiries that are due. -/
def Slot.afterExpiry (sl : Slot) : Slot := if sl.occupied = true ∧ sl.timer = 0 then sl.freed else sl

theorem expireIfDue_ort (s : State) (i j : SlotIndex) :
    (expireIfDue s i).fu.ort[j] = if j = i then s.fu.ort[j].afterExpiry else s.fu.ort[j] := by
  by_cases hdue : s.fu.ort[i].occupied = true ∧ s.fu.ort[i].timer = 0
  · have hfu : (expireIfDue s i).fu.ort = (freeSlot i s).fu.ort := by
      rw [expireIfDue, if_pos hdue, completeDueFences_fu_ort, expireSlot_fu]
    simp only [hfu, freeSlot_ort_freed]
    split
    case isTrue h =>
      subst h
      rw [Slot.afterExpiry, if_pos hdue]
    case isFalse => rfl
  · have hfu : (expireIfDue s i).fu.ort = s.fu.ort := by rw [expireIfDue, if_neg hdue]
    simp only [hfu]
    split
    case isTrue h =>
      subst h
      rw [Slot.afterExpiry, if_neg hdue]
    case isFalse => rfl

theorem settle_fu (s : State) : (settle s).fu = ((List.finRange 32).foldl expireIfDue (completeDueFences s)).fu := by
  rw [settle, endDrain_fu, expireRecords_fu]

/-- R79, R83: before time passes no running timer is at zero (log entry 21). -/
theorem settle_timer {s : State} {i : SlotIndex} (hocc : (settle s).fu.ort[i].occupied = true) :
    (settle s).fu.ort[i].timer ≠ 0 := by
  have hslot : (settle s).fu.ort[i] = ((completeDueFences s).fu.ort[i]).afterExpiry := by
    have hfold := foldl_finRange (get := fun (s : State) j => s.fu.ort[j]) (f := expireIfDue) (g := Slot.afterExpiry)
      expireIfDue_ort (completeDueFences s) i
    have hfu := settle_fu s
    generalize (List.finRange 32).foldl expireIfDue (completeDueFences s) = u at hfold hfu
    simp only [hfu]
    exact hfold
  rw [hslot] at hocc ⊢
  unfold Slot.afterExpiry at hocc ⊢
  split at hocc
  · exact nomatch hocc
  case isFalse hlive =>
    rw [if_neg hlive]
    exact fun hzero => hlive ⟨hocc, hzero⟩

/-- R82: when a tick passes, by the period's prescale. -/
theorem tickPasses_iff (s : State) : s.TickPasses ↔ s.phase = .running ∧
    ((∃ rest, s.pending = .tick :: rest) ∨
      (s.pending = [] ∧ s.due = [] ∧ s.tb.period.prescale ≤ s.tb.prescale + 1)) := by
  unfold State.TickPasses
  cases s.tb.period <;> rfl

theorem tick_not_due (s : State) : Instr.tick ∉ s.due := by
  simp only [State.due, State.timed, List.mem_append, not_or]
  refine ⟨⟨⟨⟨⟨⟨⟨⟨?_, ?_⟩, ?_⟩, ?_⟩, ?_⟩, ?_⟩, ?_⟩, ?_⟩, ?_⟩
  all_goals simp

/-- What a step does, for the fences: a tick behind what is due, or what leaves every record and its counts. -/
theorem step_fences {s t : State} (hs : s.FenceLaw) (hstep : step s = .next t) :
    (¬ s.TickPasses ∧ Follow s t) ∨
      s.TickPasses ∧ ∃ u, Follow s u ∧ u.FenceLaw ∧ u.fenceDue = false ∧
        (∀ i : SlotIndex, u.fu.ort[i].occupied = true → u.fu.ort[i].timer ≠ 0) ∧ t = tickAll u := by
  rw [tickPasses_iff]
  have hquiet {c : Instr} {v : State} (hv : v.fu = s.fu) (h : exec c v = .next t)
      (htick : ¬ (c = .tick ∧ v.phase = .running)) : Follow s t := by
    have hlaw : v.FenceLaw := by rw [State.FenceLaw, hv]; exact hs
    have hfollow : Follow v t → Follow s t := by
      intro hf g hg
      have hg := hf g hg
      rwa [FenceRec.Follows, hv] at hg
    obtain (hlink | hacts) | ⟨hc, hrun, -⟩ := exec_cases h
    · exact hfollow hlink.follow
    · exact hfollow (hacts.follow hlaw).1
    · exact absurd ⟨hc, hrun⟩ htick
  unfold step at hstep
  split at hstep
  case h_1 c rest hpending =>
    by_cases htick : c = .tick ∧ s.phase = .running
    · obtain ⟨rfl, hrun⟩ := htick
      have ht : t = tickAll (settle { s with pending := rest }) := by
        have ht := Host.Outcome.next.inj hstep
        rw [if_pos hrun] at ht
        exact ht.symm
      have hacts : Acts { s with pending := rest } (settle { s with pending := rest }) := settle_acts
      obtain ⟨hfollow, -, hlaw⟩ := hacts.follow hs
      exact .inr ⟨⟨hrun, .inl ⟨rest, hpending⟩⟩, _, hfollow, hlaw, settle_fenceDue _, fun i => settle_timer, ht⟩
    · refine .inl ⟨?_, hquiet (v := { s with pending := rest }) rfl hstep htick⟩
      rintro ⟨hrun, ⟨rest', hfront⟩ | ⟨hempty, -⟩⟩
      · rw [hpending] at hfront
        exact htick ⟨(List.cons.inj hfront).1, hrun⟩
      · exact nomatch hpending.symm.trans hempty
  case h_2 hpending =>
    have hback (rest : List Instr) : s.pending ≠ .tick :: rest := by rw [hpending]; exact nofun
    split at hstep
    case h_1 event rest hdue =>
      refine .inl ⟨?_, hquiet rfl hstep fun h => tick_not_due s ?_⟩
      · rintro ⟨-, ⟨rest', hfront⟩ | ⟨-, hnone, -⟩⟩
        · exact hback rest' hfront
        · exact nomatch hdue.symm.trans hnone
      · rw [hdue, h.1]
        exact List.mem_cons_self
    case h_2 hdue =>
      have ht := (Host.Outcome.next.inj hstep).symm
      unfold refClock at ht
      split at ht
      case isTrue hrun =>
        split at ht
        case isTrue hfull =>
          have htimed : s.timed = [] := by
            rw [State.due] at hdue
            simp only [List.append_eq_nil_iff] at hdue
            exact hdue.1.1.1.1.1
          obtain ⟨⟨⟨hfence, -⟩, hslots⟩, -⟩ : (((if s.fenceDue then [Instr.fenceCompletion] else []) = [] ∧ _) ∧
              s.expiredSlots.map Instr.upstreamTimerExpiry = []) ∧ _ := by
            simpa only [State.timed, List.append_eq_nil_iff] using htimed
          refine .inr ⟨⟨hrun, .inr ⟨hpending, hdue, hfull⟩⟩, s, follow_refl s, hs, ?_, fun i hocc hzero => ?_, ht⟩
          · by_contra hsome
            rw [if_pos (by simpa using hsome)] at hfence
            exact nomatch hfence
          · have hmem : i ∈ s.expiredSlots :=
              List.mem_filter.2 ⟨List.mem_finRange i, by rw [hocc, hzero]; rfl⟩
            rw [List.map_eq_nil_iff.1 hslots] at hmem
            exact nomatch hmem
        case isFalse hlow =>
          refine .inl ⟨?_, ht ▸ follow_of_fences (fun _ h => h) fun _ _ _ _ => rfl⟩
          rintro ⟨-, ⟨rest', hfront⟩ | ⟨-, -, hfull⟩⟩
          · exact hback rest' hfront
          · exact hlow hfull
      case isFalse hstopped =>
        exact .inl ⟨fun h => hstopped h.1, ht ▸ follow_refl s⟩

/-- R118: a record of the Fence List is the one of its id. -/
theorem fence_eq_of_id {s : State} (hs : s.FenceLaw) {f g : FenceRec} (hf : f ∈ s.fu.fences) (hg : g ∈ s.fu.fences)
    (hid : f.id = g.id) : f = g :=
  List.inj_on_of_nodup_map hs.2.1 hf hg hid

/-- What follows from a record's history: it captures no slot it did not capture, with its counts. -/
theorem captured_of_follow {s t : State} (hs : s.FenceLaw) (hfollow : Follow s t) {f g : FenceRec}
    (hf : f ∈ s.fu.fences) (hg : g ∈ t.fu.fences) (hid : g.id = f.id) {i : SlotIndex} (hi : i ∈ g.captured) :
    i ∈ f.captured ∧ t.fu.ort[i].timer = s.fu.ort[i].timer := by
  obtain hnew | ⟨f', hf', hid', hcaptured⟩ := hfollow g hg
  · have hold := (hs.2.2 f hf).1
    omega
  · obtain rfl := fence_eq_of_id hs hf' hf (hid'.trans hid)
    exact hcaptured i hi

/-- Settles O57: the laws over the acts of a step, and the history of a record, a tick apart. -/
theorem fencesAndTimersAreKept : Obligations.FencesAndTimersAreKept := by
  intro s t hfence htimer hcache hstep
  obtain ⟨hfence', htimer', hcache'⟩ := deferredLaws_step ⟨hfence, htimer, hcache⟩ hstep
  refine ⟨hfence', htimer', hcache', fun f hf g hg hid => ?_⟩
  obtain ⟨hnotick, hfollow⟩ | ⟨htick, u, hfollow, hlaw, hdue, hrunning, rfl⟩ := step_fences hfence hstep
  · refine ⟨fun htick => absurd htick hnotick, fun i hi => ?_⟩
    obtain ⟨hmem, hsame⟩ := captured_of_follow hfence hfollow hf hg hid hi
    exact ⟨hmem, fun _ => hsame, fun htick => absurd htick hnotick⟩
  · rw [tickAll_fences] at hg
    refine ⟨fun _ hempty => ?_, fun i hi => ?_⟩
    · have hsome : u.fenceDue = true := List.any_eq_true.2 ⟨g, hg, by rw [FenceRec.due, hempty]; rfl⟩
      exact nomatch hdue.symm.trans hsome
    · obtain ⟨hmem, hsame⟩ := captured_of_follow hfence hfollow hf hg hid hi
      refine ⟨hmem, fun hno => absurd htick hno, fun _ => ?_⟩
      have hocc := (hlaw.2.2 g hg).2.2 i hi
      have hpos : u.fu.ort[i].timer.toNat ≠ 0 := fun h0 => hrunning i hocc (BitVec.eq_of_toNat_eq h0)
      rw [tickAll_ort, if_pos hocc, ← hsame]
      simp only [lowered_toNat]
      omega

end Sys2Proof.Machine
end

section
/-! PROOFS. What a command sends goes over links that are UP (R47, R60, R72, R167, R182 to R184). -/

namespace Sys2Proof.Machine

/-- R47, R60, R182: a packet that the links of `s` and `t`, before and after, carry. -/
def Sent.Carried (s t : State) : Sent → Prop
  | .client p k => t.ports[p].link = .up ∧ k.kind ∈ clientKinds
  | .fabric k => s.fabric = .up ∧ t.fabric = .up ∧ k.source = s.ownNode ∧ k.kind ∈ fabricKinds

/-- The queue stays, and what is sent is added and carried. -/
def Carries (s t : State) : Prop :=
  t.pending = s.pending ∧ ∃ l, t.sent = s.sent ++ l ∧ ∀ x ∈ l, x.Carried s t

theorem carries_of_sent {s t : State} (hpending : t.pending = s.pending) (hsent : t.sent = s.sent) : Carries s t :=
  ⟨hpending, [], by rw [hsent, List.append_nil], nofun⟩

theorem carries_of_added {s t : State} {x : Sent} (hpending : t.pending = s.pending) (hsent : t.sent = s.sent ++ [x])
    (hx : x.Carried s t) : Carries s t :=
  ⟨hpending, [x], hsent, fun _ hy => List.mem_singleton.1 hy ▸ hx⟩

/-- Links that stay as they are carry what they carried. -/
theorem Sent.Carried.of_links {s t u v : State} {x : Sent} (hown : t.ownNode = s.ownNode) (hs : t.fabric = s.fabric)
    (hu : v.fabric = u.fabric) (hlink : ∀ p : Port, v.ports[p].link = u.ports[p].link) (hx : x.Carried s u) :
    x.Carried t v := by
  cases x with
  | client p k => exact ⟨(hlink p).trans hx.1, hx.2⟩
  | fabric k =>
    obtain ⟨hbefore, hafter, hsource, hk⟩ := hx
    exact ⟨hs.trans hbefore, hu.trans hafter, hsource.trans hown.symm, hk⟩

theorem Act.carries {s t : State} (h : Act s t) : Carries s t := by
  have hlinks := h.links
  obtain ⟨hfabric, -, hpending, hlink⟩ := hlinks
  cases h with
  | tell hup hk => exact carries_of_added rfl rfl ⟨hup, hk⟩
  | send hup hsource hk => exact carries_of_added rfl rfl ⟨hup, hup, hsource, hk⟩
  | @grant w => cases w <;> exact carries_of_sent rfl rfl
  | conclude => exact carries_of_sent hpending (by rw [unquiesced_eq]; rfl)
  | _ => exact carries_of_sent hpending rfl

theorem Acts.carries {s t : State} (h : Acts s t) : Carries s t := by
  induction h with
  | refl => exact carries_of_sent rfl rfl
  | @tail u v hrun hact ih =>
    obtain ⟨hpending, l, hsent, hcarried⟩ := ih
    obtain ⟨hpending', l', hsent', hcarried'⟩ := hact.carries
    obtain ⟨hfabric, -, -, hlink⟩ := hact.links
    refine ⟨hpending'.trans hpending, l ++ l', by rw [hsent', hsent, List.append_assoc], fun x hx => ?_⟩
    obtain hx | hx := List.mem_append.1 hx
    · exact (hcarried x hx).of_links rfl rfl hfabric hlink
    · exact (hcarried' x hx).of_links (Acts.ownNode hrun).symm (Acts.links hrun).1.symm rfl fun _ => rfl

/-! ### Link events -/

theorem mem_refusal {code : RefusalCode} {r : Request} {s : State} {x : Sent} (hx : x ∈ s.refusal code r) :
    s.ports[r.port].link = .up ∧ x = .client r.port (answerOf 0x2F code.byte [] r) := by
  unfold State.refusal at hx
  split at hx
  case isTrue h => exact ⟨h.2, List.mem_singleton.1 hx⟩
  case isFalse => exact nomatch hx

/-- R167: every packet of a fabric link loss is a refusal. -/
theorem mem_lossSends {s : State} {x : Sent} (hx : x ∈ s.lossSends) : ∃ code r, x ∈ s.refusal code r := by
  simp only [State.lossSends, List.mem_append, List.mem_flatMap] at hx
  obtain (⟨i, -, hslot⟩ | ⟨p, -, hstaged⟩) | hmiss := hx
  · unfold State.slotRefusal at hslot
    split at hslot
    · exact ⟨_, _, hslot⟩
    · exact nomatch hslot
  · unfold State.stagedRefusal at hstaged
    split at hstaged
    · exact ⟨_, _, hstaged⟩
    · exact nomatch hstaged
  · obtain ⟨h, -, hheld⟩ := List.mem_flatMap.1 hmiss
    exact ⟨_, _, hheld⟩

theorem fabricLost_carries (s : State) : Carries s (fabricLost s) := by
  rw [fabricLost_eq]
  refine ⟨rfl, s.lossSends, rfl, fun x hx => ?_⟩
  obtain ⟨code, r, hrefusal⟩ := mem_lossSends hx
  obtain ⟨hup, rfl⟩ := mem_refusal hrefusal
  refine ⟨?_, List.mem_of_elem_eq_true rfl⟩
  simp only [Fin.getElem_fin, getElem_mapTable]
  rw [PortState.afterLoss]
  split
  · exact hup
  · exact hup

theorem LinkAct.carries {s t : State} (h : LinkAct s t) : Carries s t := by
  cases h with
  | startUp => exact carries_of_sent rfl rfl
  | assertReset => exact carries_of_sent rfl rfl
  | @portUp p =>
    rw [clientUp_eq]
    refine carries_of_added rfl rfl ⟨?_, List.mem_of_elem_eq_true rfl⟩
    simp
  | portDown =>
    rw [clientDown_eq]
    exact carries_of_sent rfl rfl
  | fabricUp => exact carries_of_sent rfl rfl
  | fabricLost => exact fabricLost_carries s

theorem exec_carries {c : Instr} {s t : State} (h : exec c s = .next t) : Carries s t := by
  obtain (hlink | hacts) | ⟨-, -, rfl⟩ := exec_cases h
  · exact hlink.carries
  · exact hacts.carries
  · obtain ⟨hpending, l, hsent, hcarried⟩ := (settle_acts (s := s)).carries
    refine ⟨by simp only [tickAll, hpending], l, by simp only [tickAll, hsent], fun x hx => ?_⟩
    exact (hcarried x hx).of_links rfl rfl (by simp only [tickAll]) fun p => by simp only [tickAll]

/-- Settles O51: link events one by one, every other command as the run of acts it is. -/
theorem onlyUpLinksCarry : Obligations.OnlyUpLinksCarry := by
  intro c s t h
  obtain ⟨hpending, l, hsent, hcarried⟩ := exec_carries h
  refine ⟨hpending, l, hsent, fun x hx => ?_⟩
  have hx := hcarried x hx
  cases x with
  | client => exact hx
  | fabric => exact hx

end Sys2Proof.Machine
end

section
/-! PROOFS. The queue (log entries 1 and 2), start-up (R163 to R166), the Fault Log (R172 to R176) and a client link that
goes DOWN (R47 to R49). -/

namespace Sys2Proof.Machine

section
variable {s : State}

/-! ### The queue and the reference clock -/

/-- Settles O50: the first case of `step`. -/
theorem stepRunsFront : Obligations.StepRunsFront := fun _ _ _ => rfl

theorem step_of_due {event : Instr} {rest : List Instr} (hpending : s.pending = []) (hdue : s.due = event :: rest) :
    step s = exec event s := by
  rw [step]
  split
  case h_1 hfront => exact nomatch hpending.symm.trans hfront
  case h_2 => rw [hdue]

theorem step_of_idle (hpending : s.pending = []) (hdue : s.due = []) : step s = .next (refClock s) := by
  rw [step]
  split
  case h_1 hfront => exact nomatch hpending.symm.trans hfront
  case h_2 => rw [hdue]

/-- R165, log entry 3: while the part runs, TICK is a tick behind what is due. -/
theorem exec_tick_of_running (hrun : s.phase = .running) : exec .tick s = .next (tickAll (settle s)) := by
  show execTick s = _
  rw [execTick, if_pos hrun]

/-- What `timed` lists: nothing, where no reply, no drain, no slot and no record is due. -/
theorem timed_eq_nil (htimed : s.timed = []) : s.fenceDue = false ∧ ¬ (s.mc.admission = .draining ∧ s.quiet = true) ∧
    (∀ i : SlotIndex, ¬ (s.fu.ort[i].occupied = true ∧ s.fu.ort[i].timer = 0)) ∧
    (s.mu.records.filter fun m => m.timer == 0) = [] := by
  rw [State.timed] at htimed
  simp only [List.append_eq_nil_iff, List.map_eq_nil_iff] at htimed
  obtain ⟨⟨⟨hfence, hdrain⟩, hslots⟩, hrecords⟩ := htimed
  refine ⟨?_, fun hdue => ?_, fun i hdue => ?_, hrecords⟩
  · by_contra hsome
    rw [if_pos (by simpa using hsome)] at hfence
    exact nomatch hfence
  · rw [if_pos (by simp [hdue])] at hdrain
    exact nomatch hdrain
  · have hmem : i ∈ s.expiredSlots := List.mem_filter.2 ⟨List.mem_finRange i, by rw [hdue.1, hdue.2]; rfl⟩
    rw [hslots] at hmem
    exact nomatch hmem

/-- Log entry 21: with nothing due, time passes at once. -/
theorem settle_of_timed_nil (htimed : s.timed = []) : settle s = s := by
  obtain ⟨hfence, hdrain, hslots, hrecords⟩ := timed_eq_nil htimed
  rw [settle, completeDueFences_none s hfence, List.foldl_fixed' fun i => by rw [expireIfDue, if_neg (hslots i)],
    expireRecords, hrecords]
  exact if_neg hdrain

/-- Settles O18: with nothing due, nothing at all is left to take before the cycle, or the tick it makes. -/
theorem idleStepCountsCycles : Obligations.IdleStepCountsCycles := by
  intro s hpending
  refine ⟨fun event rest hdue => step_of_due hpending hdue, fun hdue hrun => ?_⟩
  intro prescale
  have hprescale : prescale = s.tb.period.prescale := by
    simp only [prescale]
    cases s.tb.period <;> rfl
  rw [hprescale, step_of_idle hpending hdue, refClock, if_pos hrun]
  refine ⟨fun hlow => by rw [if_neg (Nat.not_le.2 hlow)], fun hfull => ?_⟩
  have htimed : s.timed = [] := by
    rw [State.due] at hdue
    simp only [List.append_eq_nil_iff] at hdue
    exact hdue.1.1.1.1.1
  rw [if_pos hfull, exec_tick_of_running hrun, settle_of_timed_nil htimed]

/-! ### Start-up -/

/-- R164: the traffic-lost flag. -/
theorem trafficLost_iff (s : State) : s.trafficLost = true ↔
    (∃ i : SlotIndex, s.fu.ort[i].occupied = true) ∨ (∃ p : Port, s.ports[p].staging ≠ none) ∨ s.mu.rp ≠ none ∨
      (∃ p : Port, s.ports[p].queue ≠ []) ∨ s.mu.held ≠ [] := by
  unfold State.trafficLost State.stagingEmpty State.ortOccupancy
  simp [List.countP_eq_zero, Option.isSome_iff_ne_none, or_assoc]

theorem heldFlag_eq_none (hphase : ∀ lost, s.phase ≠ .inReset lost) : s.phase.heldFlag = none := by
  cases h : s.phase with
  | inReset lost => exact absurd h (hphase lost)
  | clearing => rfl
  | running => rfl

theorem exec_pinResetAssert_of_high (hphase : ∀ lost, s.phase ≠ .inReset lost) :
    exec .pinResetAssert s = .next (assertReset s) := by
  show execPinResetAssert s = _
  rw [execPinResetAssert, heldFlag_eq_none hphase]

theorem exec_pinResetRelease_of_low (strap : BitVec 4) {lost : Bool} (hphase : s.phase = .inReset lost) :
    exec (.pinResetRelease strap) s = .next (startUp strap { kind := .pin, trafficLost := lost } s) := by
  show execPinResetRelease strap s = _
  rw [execPinResetRelease, hphase]
  rfl

theorem exec_startupClearingDone_of_clearing (hphase : s.phase = .clearing) :
    exec .startupClearingDone s = .next { s with phase := .running, tb := { s.tb with prescale := 0 } } := by
  show execStartupClearingDone s = _
  rw [execStartupClearingDone, if_pos hphase]

/-- R165: start-up ends with nothing but the phase changed, its prescale count being 0 already. -/
theorem exec_startupClearingDone_startUp (strap : BitVec 4) (cause : ResetCause) (s : State) :
    exec .startupClearingDone (startUp strap cause s) = .next { startUp strap cause s with phase := .running } :=
  exec_startupClearingDone_of_clearing rfl

theorem exec_powerOn (strap : BitVec 4) (s : State) : exec (.powerOn strap) s =
    .next { State.reset with strap := strap, phase := .clearing, sent := s.sent, pending := s.pending } := rfl

theorem startUp_pin (strap : BitVec 4) (lost : Bool) (s : State) :
    startUp strap { kind := .pin, trafficLost := lost } s = { State.reset with
      strap := strap, phase := .clearing, mc := ManageCtl.cleared { kind := .pin, trafficLost := lost }
      sent := s.sent, pending := s.pending } := rfl

/-- R166, log entry 8: what the assertion leaves as it was. -/
theorem assertReset_keeps (s : State) :
    (assertReset s).tu = s.tu ∧ (assertReset s).du = s.du ∧ (assertReset s).tb = s.tb ∧ (assertReset s).fl = s.fl ∧
      (assertReset s).strap = s.strap ∧ (assertReset s).sent = s.sent ∧ (assertReset s).pending = s.pending ∧
      (assertReset s).fu.pointer = s.fu.pointer ∧ (assertReset s).fu.nextFence = s.fu.nextFence := by
  simp only [assertReset, and_self]

/-- R166: what the assertion writes. -/
theorem assertReset_writes (s : State) :
    (assertReset s).phase = .inReset s.trafficLost ∧ (∀ p : Port, (assertReset s).ports[p] = PortState.cleared) ∧
      (assertReset s).fabric = .down ∧
      (∀ i : SlotIndex, (assertReset s).fu.ort[i] = { s.fu.ort[i] with occupied := false }) ∧
      (assertReset s).fu.fences = [] ∧ (assertReset s).mu = { s.mu with records := [], held := [], rp := none } ∧
      (assertReset s).mc = { s.mc with admission := .closed, owner := none, cache := none, quiesce := none } := by
  simp only [assertReset, Fin.getElem_fin, getElem_mapTable, Vector.getElem_replicate, and_self, implies_true]

/-- Settles O1: POWER_ON, then the assertion, the release and the end of clearing. -/
theorem startUpClears : Obligations.StartUpClears := by
  refine ⟨exec_powerOn, fun strap s hphase => ⟨trafficLost_iff s, assertReset s,
      startUp strap { kind := .pin, trafficLost := s.trafficLost } (assertReset s), ?_⟩,
    fun strap lost s hphase => ?_, fun s hphase => exec_startupClearingDone_of_clearing hphase⟩
  · obtain ⟨hphase', hports, hfabric, hort, hfences, hmu, hmc⟩ := assertReset_writes s
    obtain ⟨htu, hdu, htb, hfl, hstrap, hsent, hpending, hpointer, hnext⟩ := assertReset_keeps s
    refine ⟨exec_pinResetAssert_of_high hphase, hphase', hports, hfabric, hort, hfences, hmu, hmc, htu, hdu, htb, hfl,
      hstrap, hsent, hpending, hpointer, hnext, exec_pinResetRelease_of_low strap hphase', ?_, ?_⟩
    · rw [startUp_pin, hsent, hpending]
    · exact exec_startupClearingDone_startUp strap _ _
  · rw [exec_pinResetRelease_of_low strap hphase, startUp_pin]

/-! ### The laws after start-up -/

/-- R163: the block values of a part that starts up keep every law. -/
theorem laws_cleared (strap : BitVec 4) (cause : ResetCause) (phase : Phase) (sent : List Sent) (pending : List Instr)
    {s : State} (hs : s = { State.reset with
      strap := strap, mc := ManageCtl.cleared cause, phase := phase, sent := sent, pending := pending }) :
    s.CreditLaw ∧ s.TableLaws ∧ s.RecordsSound ∧ s.DeferredLaws ∧ s.MissLaws ∧ s.AdmissionLaws ∧ s.TranslationLaw := by
  subst hs
  have hdeferred : (startUp strap cause State.reset).DeferredLaws :=
    (LinkAct.startUp strap cause).deferredLaws ⟨fenceLaw_empty rfl, timerLaw_of_free fun i => by
      simp [State.reset, ForwardUnit.cleared, Slot.cleared], cacheLaw_none rfl⟩
  exact ⟨creditLaw_dark rfl, tableLaws_cleared rfl, ⟨faultLog_cleared, domainLaw_cleared, timeBase_defaults⟩, hdeferred,
    missLaws_empty rfl rfl rfl, admissionLaws_closed rfl rfl rfl rfl, translationLaw_dark rfl rfl⟩

/-- Settles O53: the reset state and the one after POWER_ON are both start-up's block values. -/
theorem resetKeepsLaws : Obligations.ResetKeepsLaws := by
  intro strap t hexec s hs
  have hlaws : s.CreditLaw ∧ s.TableLaws ∧ s.RecordsSound ∧ s.DeferredLaws ∧ s.MissLaws ∧ s.AdmissionLaws ∧
      s.TranslationLaw := by
    obtain rfl | rfl := hs
    · exact laws_cleared 0 { kind := .power, trafficLost := false } .running [] [] rfl
    · exact laws_cleared strap { kind := .power, trafficLost := false } .clearing [] []
        (Host.Outcome.next.inj hexec).symm
  obtain ⟨hcredit, ⟨hpin, hoverlap, hentry⟩, ⟨hlog, hdomain, htiming⟩, ⟨hfence, htimer, hcache⟩,
    ⟨hrecord, hheld, hrp⟩, ⟨howner, hnotified, hquiesce, hquiet⟩, htranslation⟩ := hlaws
  exact ⟨hcredit, hpin, hoverlap, hentry, hdomain, hfence, htimer, hrecord, hheld, hrp, hcache, hlog, howner, hnotified,
    hquiesce, hquiet, htiming, htranslation⟩

/-! ### The Fault Log -/

/-- R145, R176: a notice to the owner of a part whose fabric link is UP. -/
theorem sendNotice_of_owner {o : Byte} (hup : s.fabric = .up) (howner : s.mc.owner = some o) (payload : List Byte) :
    sendNotice payload s = { s with
      mc := { s.mc with noticeSeq := s.mc.noticeSeq + 1 }
      sent := s.sent ++ [.fabric (managePacket 0x62 0 s.ownNode o s.mc.noticeSeq payload)] } := by
  unfold sendNotice
  rw [howner]
  simp only [if_pos hup, State.emit]

theorem sendNotice_of_unowned (howner : s.mc.owner = none) (payload : List Byte) : sendNotice payload s = s := by
  unfold sendNotice
  rw [howner]

theorem exec_unsolicitedPacket_of_up (hup : s.fabric = .up) (source kind : Byte) :
    exec (.unsolicitedPacket source kind) s = .next (logFault (unsolicitedFault source) s) := by
  show execUnsolicitedPacket source kind s = _
  rw [execUnsolicitedPacket, if_neg (by rw [hup]; exact nofun)]

/-- Settles O16: the log by the number of its records, the notice by the owner. -/
theorem faultIsLogged : Obligations.FaultIsLogged := by
  intro source kind s hup record appended
  rw [exec_unsolicitedPacket_of_up hup, logFault_eq]
  have hroom (h : s.fl.records.length < 16) : ({ s with fl := s.fl.after (unsolicitedFault source) } : State) = appended := by
    rw [FaultLog.after, if_pos h]
    rfl
  refine ⟨fun hfull => ?_, fun hlow hsilent => ?_, fun o hempty howner => ?_⟩
  · rw [if_neg fun hempty => absurd hfull (by rw [hempty]; decide), FaultLog.after, if_neg (Nat.not_lt.2 hfull)]
  · rw [hroom hlow]
    split
    case isTrue hempty =>
      obtain hne | hunowned := hsilent
      · exact absurd hempty hne
      · exact congrArg _ (sendNotice_of_unowned (s := appended) hunowned _)
    case isFalse => rfl
  · rw [if_pos hempty, hroom (by rw [hempty]; decide)]
    exact congrArg _ (sendNotice_of_owner (s := appended) hup howner _)

/-! ### CLIENT_LINK_DOWN -/

theorem exec_clientLinkDown_of_up {p : Port} (hup : s.ports[p].link = .up) :
    exec (.clientLinkDown p) s = .next (clientDown p s) := by
  show execClientLinkDown p s = _
  rw [execClientLinkDown, if_pos hup]

/-- Settles O3: the fields of the state behind the teardown. -/
theorem clientLinkTeardown : Obligations.ClientLinkTeardown := by
  intro p s hup
  refine ⟨_, exec_clientLinkDown_of_up hup, ?_⟩
  rw [clientDown_eq]
  refine ⟨rfl, fun i => ?_, ?_, fun m => ?_, List.filter_sublist, fun q => ?_, rfl, rfl, rfl, rfl, rfl, rfl, rfl, rfl,
    rfl, rfl, rfl, rfl, rfl, rfl⟩
  · simp [Slot.orphaned]
  · simp only [bne, Bool.beq_eq_decide_eq, ne_eq, decide_not]
  · simp
  · simp
end

end Sys2Proof.Machine
end

section
/-! PROOFS. The client ports and RP (R50 to R59, R93 to R96, R105, R107): arrival, head processing, the stale re-lookups,
the replay. -/

namespace Sys2Proof.Machine

section
variable {s : State}

/-! ### Heads -/

theorem processHead_of_up {p : Port} {pkt : RxPacket} {rest : List RxPacket} (hup : s.ports[p].link = .up)
    (hqueue : s.ports[p].queue ≠ []) : processHead p pkt rest s = (judgeHead p pkt s).headLeft p rest := by
  have hlink : ((judgeHead p pkt s).updPort p fun c => { c with queue := rest, credits := c.credits + 1 }).ports[p].link =
      .up := by
    rw [updPort_link (by exact fun _ => rfl), (judgeHead_acts pkt hqueue).links.2.2.2, hup]
  rw [processHead, grantCredit_eq, updPort_updPort, creditPacket_eq_creditOf]
  exact sendClient_of_up hlink _

/-- R53: a head leaves behind its judgement, and its credit comes back. -/
theorem exec_headProcessing_of_head {p : Port} {pkt : RxPacket} {rest : List RxPacket} (h : s.HeadAt p pkt rest) :
    exec (.headProcessing p) s = .next ((judgeHead p pkt s).headLeft p rest) := by
  obtain ⟨hup, hqueue, hstaging⟩ := h
  show execHeadProcessing p s = _
  rw [execHeadProcessing, hqueue, hstaging]
  exact congrArg _ (processHead_of_up hup (by rw [hqueue]; exact nofun))

/-- R53, R56: a well-formed head in OPEN, of a bound stream. -/
theorem judgeHead_of_bound {p : Port} {pkt : RxPacket} {r : Request} {d : Domain} (hrequest : pkt.request p = some r)
    (hopen : s.mc.admission = .opened) (hbound : s.du.streams[p][r.stream] = some d) :
    judgeHead p pkt s = judgeInDomain p r d s := by
  rw [judgeHead, hrequest]
  simp only [hopen]
  rw [judgeAtPort, hbound]

/-! ### Domain state -/

theorem judgeInDomain_of_paused {p : Port} {r : Request} {d : Domain} (hpaused : s.du.domains[d].state = .paused) :
    judgeInDomain p r d s = (s.setStaging p none).refused .busy r := by
  rw [judgeInDomain, hpaused]
  exact refuse_unreported rfl ..

theorem judgeInDomain_of_barred {p : Port} {r : Request} {d : Domain} (hbarred : s.du.domains[d].state = .barred) :
    judgeInDomain p r d s = ((s.setStaging p none).refused .denied r).reported .denied d r := by
  rw [judgeInDomain, hbarred]
  exact refuse_reported rfl ..

/-! ### Lookups -/

/-- R4, R13: by the overlap law one entry at most matches. -/
theorem matches_unique {d : Domain} {a : Addr} {i j : EntryIndex} (hlaw : s.OverlapLaw)
    (hi : s.tu.entries[i].matchesAt d a = true) (hj : s.tu.entries[j].matchesAt d a = true) : i = j := by
  by_contra hne
  simp only [Entry.matchesAt, Bool.and_eq_true, decide_eq_true_eq] at hi hj
  obtain ⟨⟨⟨hivalid, hisees⟩, hilow⟩, hihigh⟩ := hi
  obtain ⟨⟨⟨hjvalid, hjsees⟩, hjlow⟩, hjhigh⟩ := hj
  refine Bool.false_ne_true ((hlaw i j hne hivalid).symm.trans (conflicts_iff.2 ⟨hjvalid, ?_, by omega, by omega⟩))
  cases hiscope : s.tu.entries[i].scope with
  | shared => exact .inl rfl
  | domain e =>
    cases hjscope : s.tu.entries[j].scope with
    | shared => exact .inr (.inl rfl)
    | domain f =>
      rw [hiscope] at hisees
      rw [hjscope] at hjsees
      exact .inr (.inr (by rw [beq_iff_eq.1 hisees, beq_iff_eq.1 hjsees]))

theorem matching_of_matches {d : Domain} {a : Addr} {i : EntryIndex} (hlaw : s.OverlapLaw)
    (hi : s.tu.entries[i].matchesAt d a = true) : s.matching d a = some i := by
  cases hmatching : s.matching d a with
  | none =>
    have hnone := List.find?_eq_none.1 hmatching i (List.mem_finRange i)
    exact absurd hi hnone
  | some j =>
    have hj := List.find?_some (p := fun i : EntryIndex => s.tu.entries[i].matchesAt d a) hmatching
    rw [matches_unique hlaw hj hi]

/-- R6: entry and ceiling, together, in the words of the statements. -/
theorem allows_iff_permits (d : Domain) (k : ReqKind) (e : Entry) :
    (s.effective d e).allows k = true ↔ Permits k e.perms s.du.domains[d].ceiling := by
  cases k <;> simp only [State.effective, Perms.inter, Perms.allows, Permits, Bool.and_eq_true]

/-- R5 to R7: a lookup that an entry matches and that is permitted. -/
theorem lookup_of_permits {d : Domain} {a : Addr} {k : ReqKind} {i : EntryIndex} (hlaw : s.OverlapLaw)
    (hi : s.tu.entries[i].matchesAt d a = true) (hpermits : Permits k s.tu.entries[i].perms s.du.domains[d].ceiling) :
    lookup d a k s = .hitAllowed s.tu.entries[i].node (s.tu.entries[i].translate a) i := by
  rw [lookup, matching_of_matches hlaw hi]
  exact if_pos (allows_iff_permits d k _ |>.2 hpermits)

theorem lookup_of_not_permits {d : Domain} {a : Addr} {k : ReqKind} {i : EntryIndex} (hlaw : s.OverlapLaw)
    (hi : s.tu.entries[i].matchesAt d a = true) (hpermits : ¬ Permits k s.tu.entries[i].perms s.du.domains[d].ceiling) :
    lookup d a k s = .hitRefused := by
  rw [lookup, matching_of_matches hlaw hi]
  exact if_neg fun hallows => hpermits (allows_iff_permits d k _ |>.1 hallows)

theorem lookup_of_misses {d : Domain} {a : Addr} (k : ReqKind) (hmisses : s.Misses d a) : lookup d a k s = .miss := by
  have hnone : s.matching d a = none := List.find?_eq_none.2 fun i _ => by rw [hmisses i]; exact Bool.false_ne_true
  rw [lookup, hnone]

theorem judgeInDomain_of_permits {p : Port} {r : Request} {d : Domain} {i : EntryIndex}
    (hactive : s.du.domains[d].state = .active) (hlaw : s.OverlapLaw)
    (hi : s.tu.entries[i].matchesAt d r.address = true)
    (hpermits : Permits r.kind s.tu.entries[i].perms s.du.domains[d].ceiling) :
    judgeInDomain p r d s = (s.hitOn i).stagedIn p (s.stagedBy r d i) := by
  rw [judgeInDomain, hactive]
  simp only [lookup_of_permits hlaw hi hpermits]
  rfl

theorem judgeInDomain_of_not_permits {p : Port} {r : Request} {d : Domain} {i : EntryIndex}
    (hactive : s.du.domains[d].state = .active) (hlaw : s.OverlapLaw)
    (hi : s.tu.entries[i].matchesAt d r.address = true)
    (hpermits : ¬ Permits r.kind s.tu.entries[i].perms s.du.domains[d].ceiling) :
    judgeInDomain p r d s = ((s.setStaging p none).refused .access r).reported .access d r := by
  rw [judgeInDomain, hactive]
  simp only [lookup_of_not_permits hlaw hi hpermits]
  exact refuse_reported rfl ..

theorem judgeInDomain_of_misses {p : Port} {r : Request} {d : Domain} (hactive : s.du.domains[d].state = .active)
    (hmisses : s.Misses d r.address) : judgeInDomain p r d s = takeMiss r d (s.setStaging p none) := by
  rw [judgeInDomain, hactive]
  simp only [lookup_of_misses r.kind hmisses]

/-! ### HEAD_PROCESSING -/

theorem checkFails_iff (pkt : RxPacket) :
    pkt.checkFails = true ↔ ∃ pl, pkt.payload = some pl ∧ pl.check ≠ checkWord pl.bytes := by
  unfold RxPacket.checkFails
  cases pkt.payload <;> simp

/-- Settles O7: the head has no request, so its judgement is that of a MALFORMED packet. -/
theorem malformedHead : Obligations.MalformedHead := by
  intro p pkt rest s h hmalformed
  rw [exec_headProcessing_of_head h, judgeHead, hmalformed]
  simp only [refuseMalformed, RxPacket.posted, beq_iff_eq, checkFails_iff]
  refine ⟨fun hkind => ?_, fun hkind hgood => ?_, fun hkind hbad => ?_⟩
  · rw [if_neg hkind, sendClient_eq_told]
    rfl
  · rw [if_pos hkind, if_neg]
    rintro ⟨pl, hpayload, hne⟩
    exact hne (hgood pl hpayload)
  · rw [if_pos hkind, if_pos hbad]
    rfl

/-- Settles O8: the admission states, then the binding, then the domain states. -/
theorem headRefusals : Obligations.HeadRefusals := by
  intro p pkt rest r s h hrequest
  have hstaging := setStaging_of_none h.2.2
  rw [exec_headProcessing_of_head h]
  refine ⟨fun hclosed => ?_, fun hbusy => ?_, fun hopen => ⟨fun hunbound => ?_, fun d hbound => ⟨fun hpaused => ?_, fun hbarred => ?_⟩⟩⟩
  · rw [judgeHead, hrequest]
    simp only [hclosed, endRequest_eq_refused]
  · rw [judgeHead, hrequest]
    obtain hadmission | hadmission := hbusy
    · simp only [hadmission, endRequest_eq_refused]
    · simp only [hadmission, endRequest_eq_refused]
  · rw [judgeHead, hrequest]
    simp only [hopen]
    rw [judgeAtPort, hunbound]
    simp only [endRequest_eq_refused, hstaging]
  · rw [judgeHead_of_bound hrequest hopen hbound, judgeInDomain_of_paused hpaused, hstaging]
  · rw [judgeHead_of_bound hrequest hopen hbound, judgeInDomain_of_barred hbarred, hstaging]

/-- Settles O9: one entry at most matches, and its permissions decide. -/
theorem headLookup : Obligations.HeadLookup := by
  intro p pkt rest r d i s h hrequest hopen hbound hactive hlaw hi
  rw [exec_headProcessing_of_head h, judgeHead_of_bound hrequest hopen hbound]
  refine ⟨fun hpermits => ?_, fun hpermits => ?_⟩
  · rw [judgeInDomain_of_permits hactive hlaw hi hpermits]
  · rw [judgeInDomain_of_not_permits hactive hlaw hi hpermits, setStaging_of_none h.2.2]

/-! ### Misses -/

/-- R91, R93: by the law of the Miss List a domain and page have one live record at most. -/
theorem recordAt_of_mem {d : Domain} {page : BitVec 20} {m : MissRec} (hlaw : s.RecordLaw) (hm : m ∈ s.mu.records)
    (hdomain : m.domain = d) (hpage : m.page = page) : s.recordAt d page = some m := by
  cases hrecord : s.recordAt d page with
  | none => exact absurd hpage (recordAt_eq_none_iff.1 hrecord m hm hdomain)
  | some m' =>
    obtain ⟨hm', hdomain', hpage'⟩ := recordAt_some hrecord
    rw [List.inj_on_of_nodup_map hlaw.2.2 hm' hm (by simp only [hdomain, hpage, hdomain', hpage'])]

theorem takeMiss_of_refused {code : RefusalCode} {r : Request} {d : Domain} (h : decideMiss r d s = .refused code) :
    takeMiss r d s = refuse code d r s := by
  rw [takeMiss, h]

theorem takeMiss_of_join {t : Half} {r : Request} {d : Domain} (h : decideMiss r d s = .join t) :
    takeMiss r d s = joinMiss r d t s := by
  rw [takeMiss, h]

theorem takeMiss_of_create {r : Request} {d : Domain} (h : decideMiss r d s = .create) :
    takeMiss r d s = createMiss r d s := by
  rw [takeMiss, h]

/-- R93 steps 1 and 2. -/
theorem decideMiss_of_fail {r : Request} {d : Domain} (h : s.du.domains[d].policy = .fail ∨ s.mc.owner = none) :
    decideMiss r d s = .refused .noMap := by
  rw [decideMiss]
  split
  · rfl
  case isFalse hpolicy => rw [if_pos (h.resolve_left hpolicy)]

section
variable {r : Request} {d : Domain} {o : Byte} (hhold : s.du.domains[d].policy = .hold) (howner : s.mc.owner = some o)
include hhold howner

/-- R93 steps 3 and 4. -/
theorem decideMiss_of_record {m : MissRec} (hrecord : s.recordAt d (pageOf r.address) = some m) :
    decideMiss r d s = if s.mu.held.length < Config.heldCapacity then .join m.ticket else .refused .busy := by
  rw [decideMiss, if_neg (by rw [hhold]; exact nofun), if_neg (by rw [howner]; exact nofun), hrecord]

/-- R93 steps 5 to 8. -/
theorem decideMiss_of_none (hnone : s.recordAt d (pageOf r.address) = none) :
    decideMiss r d s =
      if Config.missCapacity ≤ s.mu.records.length then .refused .busy
      else if s.du.domains[d].quota.toNat ≤ s.liveMisses d then .refused .busy
      else if Config.heldCapacity ≤ s.mu.held.length then .refused .busy
      else .create := by
  rw [decideMiss, if_neg (by rw [hhold]; exact nofun), if_neg (by rw [howner]; exact nofun), hnone]
end

/-- R90: what a request adds to the wanted access, by its kind. -/
theorem need_eq (k : ReqKind) : k.need = { r := decide (k = .read), w := decide (k ≠ .read), p := decide (k = .postedWrite) } := by
  cases k <;> rfl

/-- R94: the join, in the words of the statements. -/
theorem joinMiss_eq_joined (r : Request) (d : Domain) (t : Half) (s : State) : joinMiss r d t s = s.joined r d t := by
  simp only [joinMiss, State.joined, Perms.union, need_eq]

/-- R92, R95, R96: the creation, in the words of the statements. -/
theorem createMiss_eq_created {o : Byte} (hup : s.fabric = .up) (howner : s.mc.owner = some o) (r : Request) (d : Domain) :
    createMiss r d s = s.created r d s.nextTicket o := by
  rw [createMiss_eq, sendNotice_of_owner (s := s.recorded r d) hup howner]
  simp only [State.created, State.recorded, newRecord, missNotice, managePacket, need_eq, Perms.byte_eq_sum,
    decide_eq_true_eq]
  rfl

/-- Settles O10: the steps of R93 one by one. -/
theorem headMiss : Obligations.HeadMiss := by
  intro p pkt rest r d s h hrequest hopen hbound hactive hmisses page full
  have hjudge : judgeHead p pkt s = takeMiss r d s := by
    rw [judgeHead_of_bound hrequest hopen hbound, judgeInDomain_of_misses hactive hmisses, setStaging_of_none h.2.2]
  rw [exec_headProcessing_of_head h, hjudge]
  refine ⟨fun hfail => ?_, fun o hhold howner => ⟨fun m hm hdomain hpage hlaw => ?_, fun hnone => ?_⟩⟩
  · rw [takeMiss_of_refused (decideMiss_of_fail hfail), refuse_reported rfl]
  · have hdecide := decideMiss_of_record hhold howner (recordAt_of_mem (page := pageOf r.address) hlaw hm hdomain hpage)
    refine ⟨fun hroom => ?_, fun hfull => ?_⟩
    · rw [takeMiss_of_join (hdecide.trans (if_pos hroom)), joinMiss_eq_joined]
    · rw [takeMiss_of_refused (hdecide.trans (if_neg (Nat.not_lt.2 hfull))), refuse_unreported rfl]
  · have hdecide := decideMiss_of_none (r := r) hhold howner (recordAt_eq_none_iff.2 hnone)
    rw [liveMisses_eq_length] at hdecide
    refine ⟨fun hfull => ?_, fun hroom hup => ?_⟩
    · have hbusy : decideMiss r d s = .refused .busy := by
        rw [hdecide]
        obtain hrecords | hquota | hheld := hfull
        · exact if_pos hrecords
        · rw [if_pos hquota, ite_self]
        · rw [if_pos (show Config.heldCapacity ≤ s.mu.held.length from hheld), ite_self, ite_self]
      rw [takeMiss_of_refused hbusy, refuse_unreported rfl]
    · obtain ⟨hrecords, hquota, hheld⟩ : ¬ 16 ≤ s.mu.records.length ∧
          ¬ s.du.domains[d].quota.toNat ≤ (s.mu.records.filter fun m => m.domain = d).length ∧
          ¬ 32 ≤ s.mu.held.length := by
        simpa only [full, not_or] using hroom
      have hcreate : decideMiss r d s = .create := by
        rw [hdecide]
        exact (if_neg hrecords).trans ((if_neg hquota).trans (if_neg hheld))
      obtain ⟨n, heq, hfresh, hbelow⟩ := nextTicket_spec (s := s) (Nat.not_le.1 hrecords)
      refine ⟨n, s.nextTicket, heq, hfresh, hbelow, ?_⟩
      rw [takeMiss_of_create hcreate, createMiss_eq_created hup howner]

/-! ### PORT_STALE_RELOOKUP -/

theorem exec_portStaleRelookup_of_stale {p : Port} {q : Staged} (hstaging : s.ports[p].staging = some q)
    (hstale : q.stale = true) : exec (.portStaleRelookup p) s = .next (judgeAtPort p q.req s) := by
  show execPortStaleRelookup p s = _
  rw [execPortStaleRelookup, hstaging]
  exact congrArg _ (if_pos hstale)

/-- Settles O11: binding, domain state and lookup, as for a head. -/
theorem portRelookup : Obligations.PortRelookup := by
  intro p q s hstaging hstale
  rw [exec_portStaleRelookup_of_stale hstaging hstale, judgeAtPort]
  refine ⟨fun hunbound => ?_, fun d hbound => ?_⟩
  · rw [hunbound]
    exact congrArg _ (endRequest_eq_refused ..)
  · rw [hbound]
    refine ⟨fun hpaused => congrArg _ (judgeInDomain_of_paused hpaused),
      fun hbarred => congrArg _ (judgeInDomain_of_barred hbarred),
      fun hactive hlaw => ⟨fun i hi => ⟨fun hpermits => congrArg _ (judgeInDomain_of_permits hactive hlaw hi hpermits),
        fun hpermits => congrArg _ (judgeInDomain_of_not_permits hactive hlaw hi hpermits)⟩,
        fun hmisses => ⟨congrArg _ (judgeInDomain_of_misses hactive hmisses), takeMiss_ports ..⟩⟩⟩

/-! ### REPLAY_PROCESSING and RP_STALE_RELOOKUP -/

theorem exec_replayProcessing_of_waits {h : HeldReq} {rest : List HeldReq} (hrp : s.mu.rp = none)
    (hreplays : s.replays = h :: rest) : exec .replayProcessing s = .next (judgeReplay h.req h.domain s) := by
  show execReplayProcessing s = _
  rw [execReplayProcessing, hrp, replayQueue_eq_replays, hreplays]

theorem exec_rpStaleRelookup_of_stale {q : Staged} (hrp : s.mu.rp = some q) (hstale : q.stale = true) :
    exec .rpStaleRelookup s = .next (judgeReplay q.req q.domain s) := by
  show execRpStaleRelookup s = _
  rw [execRpStaleRelookup, hrp]
  exact congrArg _ (if_pos hstale)

theorem popReplay_eq_replayGone (s : State) : popReplay s = s.replayGone := by
  simp only [popReplay, State.replayGone, Bool.beq_eq_decide_eq]

/-- Settles O20: domain state and lookup under the request's own domain. -/
theorem replayIsJudged : Obligations.ReplayIsJudged := by
  intro event r d s hevent
  have hexec : exec event s = .next (judgeReplay r d s) := by
    obtain ⟨rfl, hrp, h, rest, hreplays, rfl, rfl⟩ | ⟨rfl, q, hrp, hstale, rfl, rfl⟩ := hevent
    · exact exec_replayProcessing_of_waits hrp hreplays
    · exact exec_rpStaleRelookup_of_stale hrp hstale
  rw [hexec, judgeReplay]
  refine ⟨fun hpaused => ?_, fun hbarred => ?_, fun hactive => ?_⟩
  · rw [hpaused]
    simp only [popReplay_eq_replayGone, refuse_unreported (code := .busy) rfl]
  · rw [hbarred]
    simp only [popReplay_eq_replayGone, refuse_reported (code := .denied) rfl]
  · rw [hactive]
    refine ⟨fun hmisses => ?_, fun i hlaw hi => ⟨fun hpermits => ?_, fun hpermits => ?_⟩⟩
    · simp only [lookup_of_misses r.kind hmisses, popReplay_eq_replayGone, refuse_reported (code := .noMap) rfl]
    · simp only [lookup_of_permits hlaw hi hpermits]
      rfl
    · simp only [lookup_of_not_permits hlaw hi hpermits, popReplay_eq_replayGone, refuse_reported (code := .access) rfl]
end

end Sys2Proof.Machine
end

section
/-! PROOFS. The check word, frames and their rows (R51 to R54, R73, R129, R147, R148, R180 to R187), and the arrival of a
client frame (R50 to R52). -/

namespace Sys2Proof.Machine

/-! ### The check word (R180) -/

/-- The check over bits, most significant first. -/
def checkBits (reg : Half) (bits : List Bool) : Half := bits.foldl checkBit reg

/-- The register begins with the bits and is clear behind them. -/
def BeginsWith (reg : Half) (bits : List Bool) : Prop := ∀ i < 16, reg.getMsbD i = bits.getD i false

/-- One bit of the check: the polynomial's lowest bit tells whether it was combined. -/
theorem beginsWith_checkBit {reg : Half} {b : Bool} {bits : List Bool} (hlength : bits.length < 16) :
    BeginsWith (checkBit reg b) bits ↔ BeginsWith reg (b :: bits) := by
  have hshift (i : Nat) : (reg <<< 1).getMsbD i = reg.getMsbD (i + 1) := BitVec.getMsbD_shiftLeft ..
  have hlast : bits.getD 15 false = false := List.getD_eq_default _ _ (by omega)
  have hmsb : reg.msb = reg.getMsbD 0 := BitVec.msb_eq_getMsbD_zero reg
  by_cases hb : reg.msb = b
  · have hstep : checkBit reg b = reg <<< 1 := by rw [checkBit, if_pos (by simpa using hb)]
    rw [hstep]
    refine ⟨fun h i hi => ?_, fun h i hi => ?_⟩
    · cases i with
      | zero => rw [← hmsb, hb]; rfl
      | succ i => rw [← hshift, h i (by omega)]; rfl
    · rw [hshift]
      obtain hi | rfl : i < 15 ∨ i = 15 := by omega
      · rw [h (i + 1) (by omega)]; rfl
      · rw [hlast]; exact BitVec.getMsbD_of_ge _ _ le_rfl
  · have hstep : checkBit reg b = (reg <<< 1) ^^^ 0x1DCF#16 := by rw [checkBit, if_neg (by simpa using hb)]
    rw [hstep]
    refine ⟨fun h => ?_, fun h => ?_⟩
    · have hodd := h 15 (by omega)
      rw [BitVec.getMsbD_xor, hshift, hlast, BitVec.getMsbD_of_ge _ _ le_rfl] at hodd
      exact absurd hodd (by decide)
    · exact absurd (hmsb.trans (h 0 (by omega))) hb

/-- R180: the check over at most 16 bits comes to 0 exactly where the register began with them. -/
theorem checkBits_eq_zero_iff {bits : List Bool} (hlength : bits.length ≤ 16) (reg : Half) :
    checkBits reg bits = 0 ↔ BeginsWith reg bits := by
  induction bits generalizing reg with
  | nil =>
    refine ⟨fun h i _ => ?_, fun h => BitVec.eq_of_getMsbD_eq fun i hi => ?_⟩
    · rw [show reg = 0 from h]
      simp
    · rw [show checkBits reg [] = reg from rfl, h i hi]
      simp
  | cons b bits ih =>
    rw [List.length_cons] at hlength
    exact (ih (by omega) (checkBit reg b)).trans (beginsWith_checkBit (by omega))

theorem checkWord_append_be16 (covered : List Byte) (check : Half) :
    checkWord (covered ++ be16 check) = checkBits (checkWord covered) ((List.range 16).map check.getMsbD) := by
  rw [checkWord, List.foldl_append]
  simp only [be16, List.foldl_cons, List.foldl_nil, checkByte, checkBits, checkWord]
  simp [List.range_succ, BitVec.getMsbD]

/-- R180: a check word behind the bytes it covers leaves 0, and no other word does. -/
theorem checkWord_append_eq_zero_iff (covered : List Byte) (check : Half) :
    checkWord (covered ++ be16 check) = 0 ↔ check = checkWord covered := by
  rw [checkWord_append_be16, checkBits_eq_zero_iff (by simp)]
  have hbits {i : Nat} (hi : i < 16) : ((List.range 16).map check.getMsbD).getD i false = check.getMsbD i := by
    simp [List.getD_eq_getElem?_getD, hi]
  refine ⟨fun h => BitVec.eq_of_getMsbD_eq fun i hi => ?_, ?_⟩
  · rw [h i hi, hbits hi]
  · rintro rfl i hi
    rw [hbits hi]

/-! ### Payloads (R181) -/

theorem of16_be16 (x : Half) : of16 (x.extractLsb' 8 8) (x.extractLsb' 0 8) = x := by
  rw [of16, extractLsb'_append_byte (by decide : 8 = 0 + 8)]
  exact BitVec.extractLsb'_eq_self

/-- R181: a frame's bytes behind its header check. -/
def tailOf : Option Payload → List Byte
  | none => []
  | some p => p.bytes ++ be16 p.check

theorem frameOf_eq (header : List Byte) (payload : Option Payload) :
    frameOf header payload = header ++ be16 (checkWord header) ++ tailOf payload := by
  cases payload <;> rfl

/-- R181: the payload of a frame is 1 to 256 bytes, or absent. -/
def Fitting (payload : Option Payload) : Prop := ∀ p, payload = some p → 1 ≤ p.bytes.length ∧ p.bytes.length ≤ 256

theorem splitPayload_tailOf {payload : Option Payload} (hfit : Fitting payload) :
    splitPayload (tailOf payload) = some payload := by
  cases payload with
  | none => rfl
  | some p =>
    obtain ⟨hlow, hhigh⟩ := hfit p rfl
    have hlength : (p.bytes ++ be16 p.check).length = p.bytes.length + 2 := by simp [be16]
    rw [splitPayload, tailOf, hlength, if_neg (by omega), if_pos ⟨by omega, by simp only [Config.maxPayload]; omega⟩,
      Nat.add_sub_cancel, List.drop_left, List.take_left]
    simp only [be16, of16_be16]

theorem splitPayload_of_length {rest : List Byte} (hempty : rest.length ≠ 0) (h : rest.length < 3 ∨ 258 < rest.length) :
    splitPayload rest = none := by
  rw [splitPayload, if_neg hempty, if_neg (by simp only [Config.maxPayload]; omega)]

theorem fitting_carried {bytes : List Byte} (h : bytes.length ≤ 256) : Fitting (carried bytes) := by
  intro p hp
  unfold carried at hp
  split at hp
  · exact nomatch hp
  case isFalse hne =>
    obtain rfl := Option.some.inj hp
    exact ⟨List.length_pos_iff.2 hne, h⟩

/-- R180, R181: the payload the part sends, behind its good check. -/
theorem payloadFrame_eq_tailOf (bytes : List Byte) : payloadFrame bytes = tailOf (carried bytes) := by
  cases bytes <;> rfl

/-! ### Client frames (R51, R182) -/

section
variable (k sb tag code l1 l0 a3 a2 a1 a0 : Byte)

theorem clientPacket_good {rest : List Byte} {payload : Option Payload} (hsplit : splitPayload rest = some payload) :
    clientPacket ([k, sb, tag, code, l1, l0, a3, a2, a1, a0] ++
        be16 (checkWord [k, sb, tag, code, l1, l0, a3, a2, a1, a0]) ++ rest) = some
      { kind := k, streamByte := sb, tag := tag, code := code, length := l1 ++ l0, address := a3 ++ a2 ++ a1 ++ a0,
        payload := payload } := by
  simp only [be16, List.cons_append, List.nil_append, clientPacket, of16_be16, if_true, hsplit]
  rfl

theorem clientPacket_bad {check : Half} (rest : List Byte)
    (hcheck : check ≠ checkWord [k, sb, tag, code, l1, l0, a3, a2, a1, a0]) :
    clientPacket ([k, sb, tag, code, l1, l0, a3, a2, a1, a0] ++ be16 check ++ rest) = none := by
  simp only [be16, List.cons_append, List.nil_append, clientPacket, of16_be16, if_neg hcheck]
end

theorem clientPacket_of_length {frame : List Byte} (hheader : frame.length ≠ 12)
    (h : frame.length < 15 ∨ 270 < frame.length) : clientPacket frame = none := by
  unfold clientPacket
  split
  case h_2 => rfl
  case h_1 rest =>
    simp only [List.length_cons] at hheader h
    rw [splitPayload_of_length (by omega) (by omega), ite_self]

/-! ### CLIENT_PACKET_ARRIVAL -/

section
variable {s : State}

theorem exec_clientPacketArrival_of_up {p : Port} (hup : s.ports[p].link = .up) (frame : List Byte) :
    exec (.clientPacketArrival p frame) s = .next (arrive p frame s) := by
  show execClientPacketArrival p frame s = _
  rw [execClientPacketArrival, if_pos hup]

/-- R51: a frame that is no packet uses no credit: the one it took comes back. -/
theorem arrive_of_none {p : Port} {frame : List Byte} (hup : s.ports[p].link = .up) (hcredit : 1 ≤ s.ports[p].credits)
    (hnone : clientPacket frame = none) : arrive p frame s =
      logFault (bareFault .checkError (.port p)) { s with sent := s.sent ++ [.client p (creditOf 1)] } := by
  have hsame : (s.updPort p fun c => { c with credits := c.credits - 1 + 1 }) = s := by
    have hport : ({ s.ports[p] with credits := s.ports[p].credits - 1 + 1 } : PortState) = s.ports[p] := by
      rw [Nat.sub_add_cancel hcredit]
    rw [State.updPort, hport]
    simp
  have hback : grantCredit p 1 (s.updPort p fun c => { c with credits := c.credits - 1 }) =
      { s with sent := s.sent ++ [.client p (creditOf 1)] } := by
    rw [grantCredit_eq, updPort_updPort]
    exact (congrArg _ hsame).trans (sendClient_of_up hup _)
  rw [arrive, if_neg (by omega), hnone]
  exact congrArg (logFault (checkErrorFault (.port p))) hback

theorem arrive_of_some {p : Port} {frame : List Byte} {pkt : RxPacket} (hcredit : 1 ≤ s.ports[p].credits)
    (hsome : clientPacket frame = some pkt) : arrive p frame s =
      s.updPort p fun c => { c with credits := c.credits - 1, queue := c.queue ++ [pkt] } := by
  rw [arrive, if_neg (by omega), hsome]
  exact updPort_updPort ..
end

/-- Settles O5: credit, then frame length and header check. -/
theorem arrivalUsesCredit : Obligations.ArrivalUsesCredit := by
  intro p s k sb tag code l1 l0 a3 a2 a1 a0 check payloadCheck bytes hup hlength header payload frame
  simp only [exec_clientPacketArrival_of_up hup]
  refine ⟨fun hcredit anyFrame => ?_, fun hcredit hcheck => ?_, fun hcredit other hheader hother => ?_,
    fun hcredit hcheck => ?_⟩
  · rw [arrive, if_pos hcredit]
    rfl
  · rw [arrive_of_none hup hcredit (clientPacket_bad _ _ _ _ _ _ _ _ _ _ _ hcheck)]
  · rw [arrive_of_none hup hcredit (clientPacket_of_length hheader hother)]
  · have htail : payload = tailOf (if bytes = [] then none else some { bytes := bytes, check := payloadCheck }) := by
      simp only [payload]
      split <;> rfl
    have hfit : Fitting (if bytes = [] then none else some { bytes := bytes, check := payloadCheck }) := by
      intro p hp
      split at hp
      · exact nomatch hp
      case isFalse hne =>
        obtain rfl := Option.some.inj hp
        exact ⟨List.length_pos_iff.2 hne, hlength⟩
    simp only [frame, hcheck, htail]
    rw [arrive_of_some hcredit (clientPacket_good _ _ _ _ _ _ _ _ _ _ (splitPayload_tailOf hfit))]

/-! ### MALFORMED packets (R54) -/

theorem reqKindOf_eq_some_iff (b : Byte) (k : ReqKind) : reqKindOf b = some k ↔ b = k.clientCode := by
  unfold reqKindOf ReqKind.clientCode
  cases k <;> split_ifs <;> simp_all

theorem reqKindOf_eq_none_iff (b : Byte) : reqKindOf b = none ↔ b ≠ 0x11 ∧ b ≠ 0x12 ∧ b ≠ 0x13 := by
  unfold reqKindOf
  split_ifs <;> simp_all

theorem headerBad_iff (pkt : RxPacket) : pkt.headerBad = true ↔
    16 ≤ pkt.streamByte.toNat ∨ pkt.length = 0 ∨ 256 < pkt.length.toNat ∨
      4096 < pkt.address.toNat % 4096 + pkt.length.toNat := by
  have hzero : pkt.length.toNat = 0 ↔ pkt.length = 0 := ⟨fun h => BitVec.eq_of_toNat_eq h, fun h => by rw [h]; rfl⟩
  simp only [RxPacket.headerBad, Bool.or_eq_true, decide_eq_true_eq, beq_iff_eq, or_assoc, hzero]
  rfl

theorem payloadBad_iff (pkt : RxPacket) (k : ReqKind) : pkt.payloadBad k = true ↔
    (k = .read ∧ pkt.payload ≠ none) ∨
      (k ≠ .read ∧ ∀ pl, pkt.payload = some pl → pl.bytes.length ≠ pkt.length.toNat ∨ pl.check ≠ checkWord pl.bytes) := by
  unfold RxPacket.payloadBad
  cases k <;> cases pkt.payload <;> simp

/-- R54, R58: the request of a packet whose kind names one. -/
theorem request_of_kind (p : Port) {pkt : RxPacket} {k : ReqKind} (hkind : pkt.kind = k.clientCode) :
    pkt.request p = if pkt.headerBad = true ∨ pkt.payloadBad k = true then none else some
      { kind := k, port := p, stream := ⟨pkt.streamByte.toNat % 16, Nat.mod_lt _ (by decide)⟩, tag := pkt.tag,
        address := pkt.address, length := pkt.length,
        payload := (pkt.payload.map Payload.bytes).getD [] } := by
  rw [RxPacket.request, (reqKindOf_eq_some_iff ..).2 hkind]
  simp only [Bool.or_eq_true]
  cases pkt.payload <;> rfl

theorem clientCode_eq_read_iff (k : ReqKind) : k.clientCode = 0x11 ↔ k = .read := by cases k <;> decide
theorem clientCode_eq_write_iff (k : ReqKind) : k.clientCode = 0x12 ↔ k = .write := by cases k <;> decide
theorem clientCode_eq_postedWrite_iff (k : ReqKind) : k.clientCode = 0x13 ↔ k = .postedWrite := by cases k <;> decide

theorem request_of_unknown (p : Port) {pkt : RxPacket} (hkind : reqKindOf pkt.kind = none) : pkt.request p = none := by
  rw [RxPacket.request, hkind]

/-- Settles O6: the conditions one by one, by the packet's kind. -/
theorem malformedExactly : Obligations.MalformedExactly := by
  intro p pkt
  cases hkind : reqKindOf pkt.kind with
  | none =>
    rw [request_of_unknown p hkind]
    exact ⟨iff_of_true rfl (.inl ((reqKindOf_eq_none_iff _).1 hkind)), nofun⟩
  | some k =>
    have hcode := (reqKindOf_eq_some_iff ..).1 hkind
    have hread : pkt.kind = 0x11 ↔ k = .read := by rw [hcode, clientCode_eq_read_iff]
    have hwrite : pkt.kind = 0x12 ↔ k = .write := by rw [hcode, clientCode_eq_write_iff]
    have hposted : pkt.kind = 0x13 ↔ k = .postedWrite := by rw [hcode, clientCode_eq_postedWrite_iff]
    have hknown : ¬ (k ≠ .read ∧ k ≠ .write ∧ k ≠ .postedWrite) := by cases k <;> simp
    rw [request_of_kind p hcode]
    refine ⟨?_, fun r hr => ?_⟩
    · simp only [ne_eq, hread, hwrite, hposted]
      rw [eq_false hknown, false_or]
      simp only [ite_eq_left_iff, reduceCtorEq, imp_false, not_not, headerBad_iff, payloadBad_iff, or_assoc, ne_eq]
    · obtain ⟨hgood, hr⟩ : ¬ (pkt.headerBad = true ∨ pkt.payloadBad k = true) ∧ _ := by
        split at hr
        · exact nomatch hr
        case isFalse h => exact ⟨h, Option.some.inj hr⟩
      rw [headerBad_iff] at hgood
      subst hr
      refine ⟨rfl, Nat.mod_eq_of_lt (by omega), rfl, rfl, rfl, hread.symm, hwrite.symm, hposted.symm, fun pl hpl => ?_,
        fun hnone => ?_⟩
      · rw [hpl]; rfl
      · rw [hnone]; rfl

/-! ### Fabric frames (R73, R129, R147, R184) -/

/-- R184: the header of a fabric frame before its check. -/
abbrev fabricHeader (kind st source destination tag seq : Byte) (length : Half) (address : BitVec 48) : List Byte :=
  [kind, st, source, destination, tag, seq] ++ be16 length ++ be48 address

/-- R73, R147: the row of a fabric packet with a good frame, by its destination and kind. -/
def packetRow (own kind st source destination tag seq : Byte) (address : BitVec 48) (payload : Option Payload) : Instr :=
  if destination ≠ own then .foreignPacket destination
  else if kind = 0x51 then .readData { source := source, tag := tag, status := st, address := address, payload := payload }
  else if kind = 0x52 then .writeAck { source := source, tag := tag, status := st, address := address, payload := payload }
  else if kind = 0x5F then .fabricError { source := source, tag := tag, status := st, address := address, payload := payload }
  else if kind = 0x60 then commandRow source seq payload
  else .unsolicitedPacket source kind

section
variable (own kind st source destination tag seq : Byte) (length : Half) (address : BitVec 48)

theorem fabricRow_frameOf {payload : Option Payload} (hfit : Fitting payload) :
    fabricRow own (frameOf (fabricHeader kind st source destination tag seq length address) payload) =
      packetRow own kind st source destination tag seq address payload := by
  rw [frameOf_eq]
  simp only [fabricHeader, be16, be48, List.cons_append, List.nil_append, fabricRow, of16_be16, of48_be48, if_true,
    splitPayload_tailOf hfit]
  rfl
end

theorem fabricRow_of_length (own : Byte) {frame : List Byte} (hheader : frame.length ≠ 16)
    (h : frame.length < 19 ∨ 274 < frame.length) : fabricRow own frame = .fabricBadFrame frame := by
  unfold fabricRow
  split
  case h_2 => rfl
  case h_1 rest =>
    simp only [List.length_cons] at hheader h
    rw [splitPayload_of_length (by omega) (by omega), ite_self]

theorem fabricRow_of_check (own : Byte) {header rest : List Byte} {check : Half} (hlength : header.length = 14)
    (hcheck : check ≠ checkWord header) :
    fabricRow own (header ++ be16 check ++ rest) = .fabricBadFrame (header ++ be16 check ++ rest) := by
  match header, hlength with
  | [k, st, src, dst, tag, sq, l1, l0, a5, a4, a3, a2, a1, a0], _ =>
    simp only [be16, List.cons_append, List.nil_append, fabricRow, of16_be16, if_neg hcheck]

/-! ### The rows of COMMAND packets (R129, R148, R187) -/

section
variable (c : Command)

theorem commandRow_resetTraffic (hwf : (Instr.resetTraffic c).wf = true) :
    commandRow c.source c.sequence (some ⟨0x14 :: c.params, c.check⟩) = .resetTraffic c := by
  have hfirst : c.first ≠ some 2 := by simpa using (Bool.and_eq_true_iff.1 hwf).2
  exact if_neg hfirst

theorem commandRow_resetFull (hwf : (Instr.resetFull c).wf = true) :
    commandRow c.source c.sequence (some ⟨0x14 :: c.params, c.check⟩) = .resetFull c :=
  if_pos (beq_iff_eq.1 (Bool.and_eq_true_iff.1 hwf).2)

theorem commandRow_install (hwf : (Instr.install c).wf = true) :
    commandRow c.source c.sequence (some ⟨0x30 :: c.params, c.check⟩) = .install c := by
  have hfirst : c.first ≠ some 0xFF := by simpa using (Bool.and_eq_true_iff.1 hwf).2
  exact if_neg hfirst

theorem commandRow_installAny (hwf : (Instr.installAny c).wf = true) :
    commandRow c.source c.sequence (some ⟨0x30 :: c.params, c.check⟩) = .installAny c :=
  if_pos (beq_iff_eq.1 (Bool.and_eq_true_iff.1 hwf).2)

/-- R187: an INVALIDATE by its selector. -/
def invalidateRow (selector : Option Byte) : Instr :=
  if selector = some 2 then .invalidateDomain c
  else if selector = some 3 then .invalidateRange c
  else if selector = some 4 then .invalidateUnpinned c
  else if selector = some 5 then .invalidateAll c
  else .invalidateIndex c

theorem commandRow_invalidate :
    commandRow c.source c.sequence (some ⟨0x33 :: c.params, c.check⟩) = invalidateRow c c.first := rfl

theorem commandRow_invalidateIndex (hwf : (Instr.invalidateIndex c).wf = true) :
    commandRow c.source c.sequence (some ⟨0x33 :: c.params, c.check⟩) = .invalidateIndex c := by
  have hfirst : c.first ∉ [some 2, some 3, some 4, some 5] := by simpa using (Bool.and_eq_true_iff.1 hwf).2
  simp only [List.mem_cons, List.not_mem_nil, or_false, not_or] at hfirst
  obtain ⟨hdomain, hrange, hunpinned, hall⟩ := hfirst
  rw [commandRow_invalidate, invalidateRow, if_neg hdomain, if_neg hrange, if_neg hunpinned, if_neg hall]

theorem commandRow_invalidateDomain (hwf : (Instr.invalidateDomain c).wf = true) :
    commandRow c.source c.sequence (some ⟨0x33 :: c.params, c.check⟩) = .invalidateDomain c := by
  rw [commandRow_invalidate, beq_iff_eq.1 (Bool.and_eq_true_iff.1 hwf).2]
  rfl

theorem commandRow_invalidateRange (hwf : (Instr.invalidateRange c).wf = true) :
    commandRow c.source c.sequence (some ⟨0x33 :: c.params, c.check⟩) = .invalidateRange c := by
  rw [commandRow_invalidate, beq_iff_eq.1 (Bool.and_eq_true_iff.1 hwf).2]
  rfl

theorem commandRow_invalidateUnpinned (hwf : (Instr.invalidateUnpinned c).wf = true) :
    commandRow c.source c.sequence (some ⟨0x33 :: c.params, c.check⟩) = .invalidateUnpinned c := by
  rw [commandRow_invalidate, beq_iff_eq.1 (Bool.and_eq_true_iff.1 hwf).2]
  rfl

theorem commandRow_invalidateAll (hwf : (Instr.invalidateAll c).wf = true) :
    commandRow c.source c.sequence (some ⟨0x33 :: c.params, c.check⟩) = .invalidateAll c := by
  rw [commandRow_invalidate, beq_iff_eq.1 (Bool.and_eq_true_iff.1 hwf).2]
  rfl

theorem commandRow_resolveRetry (hwf : (Instr.resolveRetry c).wf = true) :
    commandRow c.source c.sequence (some ⟨0x40 :: c.params, c.check⟩) = .resolveRetry c := by
  have haction : c.action ≠ some 2 := by simpa using (Bool.and_eq_true_iff.1 hwf).2
  exact if_neg haction

theorem commandRow_resolveDeny (hwf : (Instr.resolveDeny c).wf = true) :
    commandRow c.source c.sequence (some ⟨0x40 :: c.params, c.check⟩) = .resolveDeny c :=
  if_pos (beq_iff_eq.1 (Bool.and_eq_true_iff.1 hwf).2)
end

/-- R148, R187: every well-formed command is spelt by its code and selecting byte. -/
theorem commandRow_of_row : ∀ r ∈ commandRows, ∀ c : Command, (r.2 c).wf = true →
    commandRow c.source c.sequence (some ⟨r.1 :: c.params, c.check⟩) = r.2 c := by
  simp only [commandRows, ownerRows, List.cons_append, List.nil_append, List.forall_mem_cons]
  exact ⟨fun _ _ => rfl, fun _ _ => rfl, fun _ _ => rfl, fun _ _ => rfl, fun _ _ => rfl, fun _ _ => rfl, fun _ _ => rfl,
    commandRow_resetTraffic, commandRow_resetFull, fun _ _ => rfl, fun _ _ => rfl, fun _ _ => rfl, fun _ _ => rfl,
    fun _ _ => rfl, commandRow_install, commandRow_installAny, fun _ _ => rfl, fun _ _ => rfl,
    commandRow_invalidateIndex, commandRow_invalidateDomain, commandRow_invalidateRange, commandRow_invalidateUnpinned,
    commandRow_invalidateAll, fun _ _ => rfl, commandRow_resolveRetry, commandRow_resolveDeny, fun _ _ => rfl,
    fun _ _ => rfl, nofun⟩

/-- Every well-formed command carries what a frame can carry. -/
theorem params_of_row : ∀ r ∈ commandRows, ∀ c : Command, (r.2 c).wf = true → c.params.length ≤ 255 := by
  have hplain {c : Command} (h : c.wf = true) : c.params.length ≤ 255 := of_decide_eq_true h
  have hselected {c : Command} {b : Bool} (h : (c.wf && b) = true) : c.params.length ≤ 255 :=
    hplain (Bool.and_eq_true_iff.1 h).1
  simp only [commandRows, ownerRows, List.cons_append, List.nil_append, List.forall_mem_cons]
  exact ⟨fun _ => hplain, fun _ => hplain, fun _ => hplain, fun _ => hplain, fun _ => hplain, fun _ => hplain,
    fun _ => hplain, fun _ => hselected, fun _ => hselected, fun _ => hplain, fun _ => hplain, fun _ => hplain,
    fun _ => hplain, fun _ => hplain, fun _ => hselected, fun _ => hselected, fun _ => hplain, fun _ => hplain,
    fun _ => hselected, fun _ => hselected, fun _ => hselected, fun _ => hselected, fun _ => hselected, fun _ => hplain,
    fun _ => hselected, fun _ => hselected, fun _ => hplain, fun _ => hplain, nofun⟩

/-- R141: a code outside the catalogue. -/
theorem commandRow_of_unknown {code : Byte} (hcode : code ∉ catalogue) (source sequence : Byte) (params : List Byte)
    (check : Half) : commandRow source sequence (some ⟨code :: params, check⟩) =
      .unknownCommand source sequence (code :: params) check := by
  simp only [catalogue, List.mem_cons, List.not_mem_nil, or_false, not_or] at hcode
  simp only [commandRow, hcode, if_false]

/-! ### The statements on frames -/

/-- R73, R147: the row of a packet for the part that is neither a response nor a COMMAND. -/
theorem packetRow_of_untaken {own kind : Byte} (hkind : kind ∉ takenKinds) (st source tag seq : Byte)
    (address : BitVec 48) (payload : Option Payload) :
    packetRow own kind st source own tag seq address payload = .unsolicitedPacket source kind := by
  simp only [takenKinds, List.mem_cons, List.not_mem_nil, or_false, not_or] at hkind
  simp only [packetRow, ne_eq, not_true_eq_false, hkind, if_false]

theorem packetRow_of_command (own st source tag seq : Byte) (address : BitVec 48) (payload : Option Payload) :
    packetRow own 0x60 st source own tag seq address payload = commandRow source seq payload :=
  if_neg (not_not.2 rfl)

theorem fitting_cons {code : Byte} {params : List Byte} {check : Half} (h : params.length ≤ 255) :
    Fitting (some ⟨code :: params, check⟩) := fun q hq => by
  rw [← Option.some.inj hq]
  exact ⟨Nat.succ_pos _, Nat.succ_le_succ h⟩

theorem fitting_of_wf {r : Response} (hwf : r.wf = true) : Fitting r.payload := by
  intro p hp
  simpa [Response.wf, hp] using hwf

/-- Settles O48: the length, the header check, the destination, then the kind and the code. -/
theorem framesSpellRows : Obligations.FramesSpellRows := by
  intro own st tag seq length address
  refine ⟨fun frame hheader h => fabricRow_of_length own hheader h,
    fun header rest check hlength hcheck => fabricRow_of_check own hlength hcheck,
    fun kind source destination payload hfit => ?_, fun code row c hrow hwf => ?_,
    fun source code params check hcode hlength => ?_, fun r hwf => ?_⟩
  · intro row
    have hrow : row = packetRow own kind st source destination tag seq address payload := fabricRow_frameOf _ _ _ _ _ _ _ _ _ hfit
    rw [hrow]
    refine ⟨fun hforeign => if_pos hforeign, fun hown hkind => ?_, fun hown hkind hpayload => ?_⟩
    · rw [hown, packetRow_of_untaken hkind]
    · rw [hown, hkind, hpayload, packetRow_of_command]
      rfl
  · have hlength := params_of_row (code, row) hrow c hwf
    rw [fabricRow_frameOf _ _ _ _ _ _ _ _ _ (fitting_cons hlength), packetRow_of_command]
    exact commandRow_of_row (code, row) hrow c hwf
  · rw [fabricRow_frameOf _ _ _ _ _ _ _ _ _ (fitting_cons hlength), packetRow_of_command]
    exact commandRow_of_unknown hcode ..
  · intro frame
    have hframe (kind : Byte) : fabricRow own (frame kind) =
        packetRow own kind r.status r.source own r.tag seq r.address r.payload :=
      fabricRow_frameOf _ _ _ _ _ _ _ _ _ (fitting_of_wf hwf)
    rw [hframe, hframe, hframe]
    exact ⟨if_neg (not_not.2 rfl), if_neg (not_not.2 rfl), if_neg (not_not.2 rfl)⟩

theorem clientFrame_eq (k : ClientPacket) : k.frame = k.header ++ be16 (checkWord k.header) ++ tailOf (carried k.payload) := by
  rw [ClientPacket.frame, payloadFrame_eq_tailOf]

theorem fabricFrame_eq (k : FabricPacket) : k.frame =
    frameOf (fabricHeader k.kind k.status k.source k.destination k.tag k.sequence k.length k.address) (carried k.payload) := by
  rw [FabricPacket.frame, payloadFrame_eq_tailOf, frameOf_eq]
  rfl

theorem clientPacket_frame {k : ClientPacket} (hlength : k.payload.length ≤ 256) : clientPacket k.frame = some
    { kind := k.kind, streamByte := k.streamByte, tag := k.tag, code := k.code, length := k.length,
      address := k.address, payload := carried k.payload } := by
  have hread := clientPacket_good k.kind k.streamByte k.tag k.code (k.length.extractLsb' 8 8) (k.length.extractLsb' 0 8)
    (k.address.extractLsb' 24 8) (k.address.extractLsb' 16 8) (k.address.extractLsb' 8 8) (k.address.extractLsb' 0 8)
    (splitPayload_tailOf (fitting_carried hlength))
  have haddress := of32_be32 k.address
  have hfield := of16_be16 k.length
  rw [of32] at haddress
  rw [of16] at hfield
  rw [haddress, hfield] at hread
  rw [clientFrame_eq]
  exact hread

/-- Settles O49: the client frame, the fabric frame, the check word, and the tables of codes. -/
theorem sentFramesReadBack : Obligations.SentFramesReadBack := by
  refine ⟨fun k hlength => clientPacket_frame hlength, fun k own hlength => ?_, checkWord_append_eq_zero_iff, rfl, rfl, rfl⟩
  rw [fabricFrame_eq, fabricRow_frameOf _ _ _ _ _ _ _ _ _ (fitting_carried hlength)]
  refine ⟨fun hforeign => if_pos hforeign.symm, fun hown hkind => ?_⟩
  rw [hown, packetRow_of_untaken hkind]

end Sys2Proof.Machine
end

section
/-! PROOFS. What ends a request or a deferred reply (R73 to R79, R81, R98, R122, R135, R156, R157, R186). -/

namespace Sys2Proof.Machine

section
variable {s : State}

/-! ### Responses -/

/-- R67, R74: the slot a matched response answers is the one its tag names. -/
theorem tagSlot_of_answers {r : Response} {i : SlotIndex} (h : s.Answers r i) :
    tagSlot r.tag = i ∧ tagIncarnation r.tag = s.fu.ort[i].incarnation := by
  obtain ⟨-, -, -, htag⟩ := h
  have hinc := s.fu.ort[i].incarnation.isLt
  refine ⟨Fin.ext ?_, BitVec.eq_of_toNat_eq ?_⟩
  · simp only [tagSlot]
    omega
  · rw [tagIncarnation, BitVec.toNat_setWidth, htag]
    omega

theorem upstreamTag_of_answers {r : Response} {i : SlotIndex} (h : s.Answers r i) :
    upstreamTag i s.fu.ort[i].incarnation = r.tag := by
  rw [upstreamTag_eq, ← h.2.2.2, BitVec.ofNat_toNat, BitVec.setWidth_eq]

theorem matched_of_answers {r : Response} {i : SlotIndex} (h : s.Answers r i) : s.matched r = true := by
  obtain ⟨hslot, hinc⟩ := tagSlot_of_answers h
  obtain ⟨-, hoccupied, hsource, -⟩ := h
  rw [State.matched]
  simp only [hslot, hinc, hoccupied, hsource, beq_self_eq_true, Bool.and_self]

/-- R74: a response that is matched answers the slot its tag names. -/
theorem answers_of_matched {r : Response} (hup : s.fabric = .up) (h : s.matched r = true) :
    s.Answers r (tagSlot r.tag) := by
  simp only [State.matched, Bool.and_eq_true, beq_iff_eq] at h
  obtain ⟨⟨hoccupied, hinc⟩, hsource⟩ := h
  refine ⟨hup, hoccupied, hsource.symm, ?_⟩
  rw [hinc, tagIncarnation, BitVec.toNat_setWidth]
  show r.tag.toNat = 8 * (r.tag.toNat / 8) + r.tag.toNat % 2 ^ 3
  omega

theorem badAddress_iff (r : Response) : badAddress r = true ↔ 2 ^ 44 ≤ r.address.toNat := decide_eq_true_iff

/-- R75 to R77: a mismatched response, in the words of the statements. -/
theorem endProtocol_eq {r : Response} {i : SlotIndex} (h : s.Answers r i) : endProtocol i s.fu.ort[i] s =
    logFault (protocolFailed s.fu.ort[i] r.tag) (s.ended .upstreamError s.fu.ort[i]) := by
  rw [endProtocol, refuseSlot_eq_ended, protocolFault, upstreamTag_of_answers h]
  rfl

theorem respond_of_answers {r : Response} {i : SlotIndex} (h : s.Answers r i)
    (handle : Response → SlotIndex → Slot → State → State) : respond handle r s =
      (if badAddress r then endProtocol i s.fu.ort[i] s else handle r i s.fu.ort[i] s).freed i := by
  obtain ⟨rfl, -⟩ := tagSlot_of_answers h
  rw [respond, if_neg (by rw [h.1]; exact nofun), if_pos (matched_of_answers h)]
  exact freeSlot_eq_freed ..

/-- R186: with a set bit among the top four of its address field, whatever the slot's kind. -/
theorem respond_of_badAddress {r : Response} {i : SlotIndex} (h : s.Answers r i) (haddress : 2 ^ 44 ≤ r.address.toNat)
    (handle : Response → SlotIndex → Slot → State → State) : respond handle r s =
      (logFault (protocolFailed s.fu.ort[i] r.tag) (s.ended .upstreamError s.fu.ort[i])).freed i := by
  rw [respond_of_answers h, if_pos ((badAddress_iff r).2 haddress), endProtocol_eq h]

theorem respond_of_goodAddress {r : Response} {i : SlotIndex} (h : s.Answers r i) (haddress : r.address.toNat < 2 ^ 44)
    (handle : Response → SlotIndex → Slot → State → State) :
    respond handle r s = (handle r i s.fu.ort[i] s).freed i := by
  rw [respond_of_answers h, if_neg fun hbad => absurd ((badAddress_iff r).1 hbad) (Nat.not_le.2 haddress)]

/-- A response whose handling is the breach of protocol, whatever its address field. -/
theorem respond_of_breach {r : Response} {i : SlotIndex} {handle : Response → SlotIndex → Slot → State → State}
    (h : s.Answers r i) (hbreach : handle r i s.fu.ort[i] s = endProtocol i s.fu.ort[i] s) : respond handle r s =
      (logFault (protocolFailed s.fu.ort[i] r.tag) (s.ended .upstreamError s.fu.ort[i])).freed i := by
  rw [respond_of_answers h, hbreach, ite_self, endProtocol_eq h]

/-- R78: what a completion of a slot's request sends, in the words of the statements. -/
theorem completeSlot_eq_told (sl : Slot) (k : ClientPacket) (s : State) :
    completeSlot sl k s = if sl.orphan = true then s else s.told sl.port k := by
  rw [completeSlot, sendClient_eq_told]

theorem exec_readData (r : Response) (s : State) : exec (.readData r) s = .next (respond onReadData r s) := rfl
theorem exec_writeAck (r : Response) (s : State) : exec (.writeAck r) s = .next (respond onWriteAck r s) := rfl
theorem exec_fabricError (r : Response) (s : State) : exec (.fabricError r) s = .next (respond onFabricError r s) := rfl

theorem onReadData_of_read {sl : Slot} (hkind : sl.kind = .read) (r : Response) (i : SlotIndex) (s : State) :
    onReadData r i sl s = endReadData r i sl s := by
  rw [onReadData, hkind]

theorem onReadData_of_not_read {sl : Slot} (hkind : sl.kind ≠ .read) (r : Response) (i : SlotIndex) (s : State) :
    onReadData r i sl s = endProtocol i sl s := by
  rw [onReadData]
  cases h : sl.kind with
  | read => exact absurd h hkind
  | write => rfl
  | postedWrite => rfl

/-- R75: the length is judged before the payload check. -/
theorem endReadData_of_length {r : Response} {sl : Slot} {pl : Payload} (hpayload : r.payload = some pl)
    (hlength : pl.bytes.length = sl.length.toNat) (i : SlotIndex) (s : State) : endReadData r i sl s =
      if pl.check = checkWord pl.bytes then completeSlot sl (completion 0x21 0 pl.bytes sl.request) s
      else logFault (checkErrorFault .fabric) (refuseSlot sl .upstreamError s) := by
  rw [endReadData, hpayload]
  exact if_neg (not_not.2 hlength)

theorem endReadData_of_misfit {r : Response} {sl : Slot}
    (hmisfit : ∀ pl, r.payload = some pl → pl.bytes.length ≠ sl.length.toNat) (i : SlotIndex) (s : State) :
    endReadData r i sl s = endProtocol i sl s := by
  rw [endReadData]
  cases hpayload : r.payload with
  | none => rfl
  | some pl => exact if_pos (hmisfit pl hpayload)

/-- Settles O13: the responses that fit, by the slot's kind. -/
theorem responseEndsRequest : Obligations.ResponseEndsRequest := by
  intro r i s h haddress sl answered
  have hanswered (k : ClientPacket) : completeSlot sl k s = answered k := completeSlot_eq_told ..
  simp only [exec_readData, exec_writeAck, exec_fabricError, respond_of_goodAddress h haddress]
  refine ⟨fun pl hkind hpayload hlength => ?_, fun hkind => ?_, fun hkind => ?_, fun hkind => ?_, fun hkind => ?_⟩
  · rw [onReadData_of_read hkind, endReadData_of_length hpayload hlength]
    refine ⟨fun hcheck => ?_, fun hcheck => ?_⟩
    · rw [if_pos hcheck, hanswered]
      rfl
    · rw [if_neg hcheck, refuseSlot_eq_ended]
      rfl
  · rw [onWriteAck, hkind]
    exact congrArg (fun u : State => Host.Outcome.next (u.freed i)) (hanswered _)
  · rw [onWriteAck, hkind]
  · rw [onFabricError]
    cases hk : s.fu.ort[i].kind with
    | read => exact congrArg (fun u : State => Host.Outcome.next (u.freed i)) (refuseSlot_eq_ended ..)
    | write => exact congrArg (fun u : State => Host.Outcome.next (u.freed i)) (refuseSlot_eq_ended ..)
    | postedWrite => exact absurd hk hkind
  · rw [onFabricError, hkind]
    rfl

/-- Settles O14: the address field first, then the responses that do not fit. -/
theorem responseBreaksProtocol : Obligations.ResponseBreaksProtocol := by
  intro r i s h sl t
  simp only [exec_readData, exec_writeAck, exec_fabricError]
  refine ⟨fun haddress => ?_, fun hkind => ?_, fun hkind hmisfit => ?_, fun hkind => ?_⟩
  · simp only [respond_of_badAddress h haddress, t, sl, and_self]
  · rw [respond_of_breach h (onReadData_of_not_read hkind ..)]
  · rw [respond_of_breach h ((onReadData_of_read hkind ..).trans (endReadData_of_misfit hmisfit ..))]
  · refine congrArg _ (respond_of_breach h ?_)
    rw [onWriteAck, hkind]

/-! ### Strays -/

theorem respond_of_stray {r : Response} (hup : s.fabric = .up) (hstray : ∀ i, ¬ s.Answers r i)
    (handle : Response → SlotIndex → Slot → State → State) :
    respond handle r s = logFault (strayFault r.tag r.source) s := by
  rw [respond, if_neg (by rw [hup]; exact nofun), if_neg fun hmatched => hstray _ (answers_of_matched hup hmatched)]

/-- R145, R176: all that a fault can send is a notice. -/
theorem mem_sent_logFault {f : FaultRec} {x : Sent} (hx : x ∈ (logFault f s).sent) :
    x ∈ s.sent ∨ ∃ k, x = .fabric k ∧ k.kind = 0x62 := by
  rw [logFault_eq] at hx
  split at hx
  · unfold sendNotice at hx
    split at hx
    · exact .inl hx
    · split at hx
      · obtain hold | hnew := List.mem_append.1 hx
        · exact .inl hold
        · exact .inr ⟨_, List.mem_singleton.1 hnew, rfl⟩
      · exact .inl hx
  · exact .inl hx

/-- Settles O15: with no slot that it answers, a response only logs. -/
theorem straysAndDrops : Obligations.StraysAndDrops := by
  refine ⟨fun r s hup hstray => ⟨_, rfl, ?_⟩, fun frame destination s hup => ⟨?_, rfl⟩⟩
  · simp only [exec_readData, exec_writeAck, exec_fabricError, respond_of_stray hup hstray]
    exact ⟨rfl, rfl, rfl, logFault_fu .., logFault_mu .., logFault_ports .., fun x hx => mem_sent_logFault hx⟩
  · show execFabricBadFrame frame s = _
    rw [execFabricBadFrame, if_neg (by rw [hup]; exact nofun)]
    rfl

/-! ### Expiries -/

theorem exec_upstreamTimerExpiry_of_due {i : SlotIndex} (hoccupied : s.fu.ort[i].occupied = true)
    (htimer : s.fu.ort[i].timer = 0) : exec (.upstreamTimerExpiry i) s = .next (expireSlot i s) := by
  show execUpstreamTimerExpiry i s = _
  rw [execUpstreamTimerExpiry, if_pos ⟨hoccupied, htimer⟩]

/-- R79: the expiry of a READ or WRITE. -/
theorem expireSlot_of_not_posted {i : SlotIndex} (hkind : s.fu.ort[i].kind ≠ .postedWrite) :
    expireSlot i s = (s.ended .upstreamTimeout s.fu.ort[i]).freed i := by
  rw [expireSlot, freeSlot_eq_freed]
  cases hk : s.fu.ort[i].kind with
  | read => exact congrArg (State.freed i) (refuseSlot_eq_ended ..)
  | write => exact congrArg (State.freed i) (refuseSlot_eq_ended ..)
  | postedWrite => exact absurd hk hkind

/-- R79: the expiry of a POSTED WRITE. -/
theorem expireSlot_of_posted {i : SlotIndex} (hkind : s.fu.ort[i].kind = .postedWrite) :
    expireSlot i s = (logFault (postedFailed s.fu.ort[i] 0x0100) s).freed i := by
  rw [expireSlot, freeSlot_eq_freed]
  simp only [hkind]
  rfl

/-- R91: by the law of the Miss List a ticket has one live record at most. -/
theorem recordOf_of_mem {m : MissRec} (hlaw : s.RecordLaw) (hm : m ∈ s.mu.records) : s.recordOf m.ticket = some m := by
  cases hrecord : s.recordOf m.ticket with
  | none => exact absurd (List.find?_eq_none.1 hrecord m hm) (by simp)
  | some m' =>
    have hticket := List.find?_some hrecord
    rw [List.inj_on_of_nodup_map hlaw.2.1 (List.mem_of_find?_eq_some hrecord) hm (beq_iff_eq.1 hticket)]

/-- R91, R98: the record and its requests gone, in the words of the statements. -/
theorem freeRecord_eq_forgot (t : Half) (s : State) : freeRecord t s = s.forgot t := by
  simp only [freeRecord, State.forgot, bne, Bool.beq_eq_decide_eq, ne_eq, decide_not]

/-- Settles O19: the slot by its kind; the record by its ticket. -/
theorem timersExpire : Obligations.TimersExpire := by
  refine ⟨fun i s hoccupied htimer => ?_, fun m s hm hlaw htimer => ?_⟩
  · rw [exec_upstreamTimerExpiry_of_due hoccupied htimer]
    exact ⟨fun hkind => congrArg _ (expireSlot_of_not_posted hkind), fun hkind => congrArg _ (expireSlot_of_posted hkind)⟩
  · show Host.Outcome.next (expireTicket s m.ticket) = _
    rw [expireTicket, recordOf_of_mem hlaw hm]
    simp only [if_pos htimer, expireRecord, freeRecord_eq_forgot, heldOf_eq_heldUnder, endRequest_eq_refused]
    rfl

/-! ### Deferred replies -/

/-- R135: the settled entry, in the words of the statements. -/
theorem storedIn_eq (name : Answer) (status : ReplyStatus) (results : List Byte) (cache : Option CacheEntry) :
    storedIn name status results cache = cache.map (CacheEntry.settled name status results) := by
  cases cache <;> rfl

theorem exec_fenceCompletion_of_due {before after : List FenceRec} {f : FenceRec} (hup : s.fabric = .up)
    (hfences : s.fu.fences = before ++ f :: after) (hbefore : ∀ g ∈ before, g.captured ≠ []) (hf : f.captured = []) :
    exec .fenceCompletion s = .next { s with
      fu := { s.fu with fences := before ++ after }
      mc := { s.mc with cache := storedIn (.pendingFence f.id) .ok [BitVec.ofNat 8 f.count] s.mc.cache }
      sent := s.sent ++ [s.replyTo f.node f.sequence f.command.code .ok [BitVec.ofNat 8 f.count]] } := by
  have hdue : f.due = true := by rw [FenceRec.due, hf]; rfl
  have hearlier (g : FenceRec) (hg : g ∈ before) : ¬ g.due = true := by
    rw [FenceRec.due, List.isEmpty_iff]
    exact hbefore g hg
  have hfind : s.fu.fences.find? FenceRec.due = some f := by
    refine List.find?_eq_some_iff_append.2 ⟨hdue, before, after, hfences, fun g hg => ?_⟩
    simpa using hearlier g hg
  have herase : s.fu.fences.eraseP FenceRec.due = before ++ after := by
    rw [hfences, List.eraseP_append_right _ hearlier, List.eraseP_cons_of_pos hdue]
  show Host.Outcome.next (completeOldestFence s) = _
  rw [completeOldestFence_of_due hfind, sendReply_of_up (s := s.unfenced f) hup, State.unfenced, herase, storedIn_eq]
  rfl

theorem exec_fenceCompletion_of_none (hnone : ∀ f ∈ s.fu.fences, f.captured ≠ []) :
    exec .fenceCompletion s = .next s := by
  have hfind : s.fu.fences.find? FenceRec.due = none := List.find?_eq_none.2 fun f hf => by
    rw [FenceRec.due, List.isEmpty_iff]
    exact hnone f hf
  show Host.Outcome.next (completeOldestFence s) = _
  rw [completeOldestFence, hfind]

theorem exec_drainCompletion_of_quiet {q : PendingQuiesce} (hup : s.fabric = .up)
    (hdraining : s.mc.admission = .draining) (hquiesce : s.mc.quiesce = some q) (hquiet : s.Quiet) :
    exec .drainCompletion s = .next { s with
      mc := { s.mc with
        admission := .quiesced, quiesce := none, cache := storedIn .pendingQuiesce .ok [] s.mc.cache }
      sent := s.sent ++ [s.replyTo q.node q.sequence 0x12 .ok []] } := by
  show Host.Outcome.next (endDrain s) = _
  rw [endDrain, if_pos ⟨hdraining, (quiet_iff_empty s).2 hquiet⟩, completeDrain, answerQuiesce]
  simp only [State.setAdmission, hquiesce]
  rw [storedIn_eq]
  exact congrArg _ (deferredReply_of_up (by exact hup) ..)

theorem exec_drainCompletion_of_not_quiet (hquiet : ¬ s.Quiet) : exec .drainCompletion s = .next s := by
  show Host.Outcome.next (endDrain s) = _
  rw [endDrain, if_neg fun h => hquiet ((quiet_iff_empty s).1 h.2)]

/-- Settles O21: the oldest due record, then the drain. -/
theorem deferredRepliesComplete : Obligations.DeferredRepliesComplete := by
  refine ⟨fun s hup => ⟨fun before after f hfences hbefore hf => ?_, exec_fenceCompletion_of_none⟩,
    fun q s hup hdraining hquiesce hfences => ⟨fun hempty => ?_, fun hempty => ?_⟩⟩
  · rw [exec_fenceCompletion_of_due hup hfences hbefore hf]
    cases f.command <;> rfl
  · exact exec_drainCompletion_of_quiet hup hdraining hquiesce ⟨hempty, hfences⟩
  · exact exec_drainCompletion_of_not_quiet fun hquiet => hempty hquiet.1
end

end Sys2Proof.Machine
end

section
/-! PROOFS. What every COMMAND row shares: steps 1 to 3 (R131 to R134, R140, R147), the width of the parameters (R188), and
RELINQUISH and QUIESCE (R101, R109, R139, R155, R156). -/

namespace Sys2Proof.Machine

section
variable {c : Command} {s : State}

/-! ### Steps 1 to 3 -/

/-- R131: where steps 1 to 3 end a command that only the owner may send, its execution is not reached. -/
theorem exec_of_owner_envelope : ∀ r ∈ ownerRows, ∀ (c : Command) (s t : State),
    envelope c.source c.sequence (r.1 :: c.params) c.check false s = some t → exec (r.2 c) s = .next t := by
  have hplain {code : Byte} {body : Command → State → State × Reply} (c : Command) (s t : State)
      (h : envelope c.source c.sequence (code :: c.params) c.check false s = some t) :
      (.next (takeCommand code false c (body c) s) : Result) = .next t := congrArg _ (takeCommand_of_envelope h)
  have hinstallAny (c : Command) (s t : State)
      (h : envelope c.source c.sequence (0x30 :: c.params) c.check false s = some t) :
      exec (.installAny c) s = .next t := by
    rw [exec_installAny, execInstallAny, h]
  simp only [ownerRows, List.forall_mem_cons]
  exact ⟨hplain (body := relinquishBody), hplain (body := openBody), hplain (body := closeBody),
    hplain (body := quiesceBody), hplain (body := releaseBody), hplain (body := resetTrafficBody),
    hplain (body := resetFullBody), hplain (body := setTimingBody), hplain (body := bindStreamBody),
    hplain (body := readStreamBody), hplain (body := setDomainBody), hplain (body := readDomainBody),
    hplain (body := installBody), hinstallAny, hplain (body := setPinBody), hplain (body := readEntryBody),
    hplain (body := invalidateIndexBody), hplain (body := invalidateDomainBody), hplain (body := invalidateRangeBody),
    hplain (body := invalidateUnpinnedBody), hplain (body := invalidateAllBody), hplain (body := fenceBody),
    hplain (body := resolveRetryBody), hplain (body := resolveDenyBody), hplain (body := readMissesBody),
    hplain (body := logReadBody), nofun⟩

/-- R131: the same for every row, CLAIM and STATUS among them. -/
theorem exec_of_envelope {code : Byte} {row : Command → Instr} {t : State} (hrow : (code, row) ∈ commandRows)
    (h : ∀ fromAny, envelope c.source c.sequence (code :: c.params) c.check fromAny s = some t) :
    exec (row c) s = .next t := by
  obtain hany | howner := List.mem_append.1 hrow
  · simp only [List.mem_cons, Prod.mk.injEq, List.not_mem_nil, or_false] at hany
    obtain ⟨rfl, rfl⟩ | ⟨rfl, rfl⟩ := hany
    · exact congrArg _ (takeCommand_of_envelope (body := claimBody c) (h true))
    · exact congrArg _ (takeCommand_of_envelope (body := statusBody c) (h true))
  · exact exec_of_owner_envelope (code, row) howner c s t (h false)

/-- Settles O22: the payload check, the own node, the owner. -/
theorem commandTurnedAway : Obligations.CommandTurnedAway := by
  refine ⟨fun code row c s hrow hup => ⟨fun hbad => ?_, fun hcheck hown => ?_⟩, fun code row c s hrow h hfresh howner => ?_⟩
  · exact exec_of_envelope hrow (envelope_of_badCheck hup (.inr hbad))
  · exact exec_of_envelope hrow (envelope_of_ownNode hup hcheck hown)
  · exact exec_of_owner_envelope (code, row) hrow c s _ (envelope_of_notOwner h hfresh howner)

/-- Settles O23: the cached answer, whatever the row. -/
theorem repeatIsAnsweredFromCache : Obligations.RepeatIsAnsweredFromCache := by
  intro code row c e s hrow h he hsource hsequence
  have hcached := answerFromCache_of_up h.1 hsource hsequence
  refine (exec_of_envelope hrow (envelope_of_repeat h he hsource hsequence)).trans (congrArg _ (hcached.trans ?_))
  cases e.answer <;> rfl

/-! ### The width of the parameters -/

theorem withoutParams_of_length (body : State → State × Reply) (h : c.params.length ≠ 0) :
    withoutParams c body s = reject .badParam s :=
  if_neg fun hp => h (by rw [hp]; rfl)

theorem setDomainOf_of_length {params : List Byte} (h : params.length ≠ 7) : setDomainOf params = none := by
  unfold setDomainOf
  split
  · exact absurd rfl h
  · rfl

theorem setTimingOf_of_length {params : List Byte} (h : params.length ≠ 3) : setTimingOf params = none := by
  unfold setTimingOf
  split
  · exact absurd rfl h
  · rfl

theorem installOf_of_length {params : List Byte} (h : params.length ≠ 16) : installOf params = none := by
  unfold installOf
  split
  · exact absurd rfl h
  · rfl

theorem invalidateOf_of_length (selector : Byte) {params : List Byte} (h : params.length ≠ 11) :
    invalidateOf selector params = none := by
  unfold invalidateOf
  split
  · exact absurd rfl h
  · rfl

theorem resolveOf_of_length (action : Byte) {params : List Byte} (h : params.length ≠ 3) :
    resolveOf action params = none := by
  unfold resolveOf
  split
  · exact absurd rfl h
  · rfl

theorem resetTrafficBody_of_length (h : c.params.length ≠ 1) : resetTrafficBody c s = reject .badParam s :=
  if_neg fun hp => h (by rw [hp]; rfl)

theorem resetFullBody_of_length (h : c.params.length ≠ 1) : resetFullBody c s = reject .badParam s :=
  if_neg fun hp => h (by rw [hp]; rfl)

theorem setTimingBody_of_length (h : c.params.length ≠ 3) : setTimingBody c s = reject .badParam s := by
  rw [setTimingBody, setTimingOf_of_length h]

theorem bindStreamBody_of_length (h : c.params.length ≠ 3) : bindStreamBody c s = reject .badParam s := by
  unfold bindStreamBody
  split
  case h_1 hp => exact absurd (by rw [hp]; rfl) h
  case h_2 => rfl

theorem readStreamBody_of_length (h : c.params.length ≠ 2) : readStreamBody c s = reject .badParam s := by
  unfold readStreamBody
  split
  case h_1 hp => exact absurd (by rw [hp]; rfl) h
  case h_2 => rfl

theorem setDomainBody_of_length (h : c.params.length ≠ 7) : setDomainBody c s = reject .badParam s := by
  rw [setDomainBody, setDomainOf_of_length h]

theorem readDomainBody_of_length (h : c.params.length ≠ 1) : readDomainBody c s = reject .badParam s := by
  unfold readDomainBody
  split
  case h_1 hp => exact absurd (by rw [hp]; rfl) h
  case h_2 => rfl

theorem installBody_of_none (h : installOf c.params = none) : installBody c s = reject .badParam s := by
  rw [installBody, h]

theorem setPinBody_of_length (h : c.params.length ≠ 2) : setPinBody c s = reject .badParam s := by
  unfold setPinBody
  split
  case h_1 hp => exact absurd (by rw [hp]; rfl) h
  case h_2 => rfl

theorem readEntryBody_of_length (h : c.params.length ≠ 1) : readEntryBody c s = reject .badParam s := by
  unfold readEntryBody
  split
  case h_1 hp => exact absurd (by rw [hp]; rfl) h
  case h_2 => rfl

section
variable (h : c.params.length ≠ 11)
include h

theorem invalidateIndexBody_of_length : invalidateIndexBody c s = reject .badParam s := by
  rw [invalidateIndexBody, invalidateOf_of_length 1 h]

theorem invalidateDomainBody_of_length : invalidateDomainBody c s = reject .badParam s := by
  rw [invalidateDomainBody, invalidateOf_of_length 2 h]

theorem invalidateRangeBody_of_length : invalidateRangeBody c s = reject .badParam s := by
  rw [invalidateRangeBody, invalidateOf_of_length 3 h]

theorem invalidateUnpinnedBody_of_length : invalidateUnpinnedBody c s = reject .badParam s := by
  rw [invalidateUnpinnedBody, invalidateOf_of_length 4 h]

theorem invalidateAllBody_of_length : invalidateAllBody c s = reject .badParam s := by
  rw [invalidateAllBody, invalidateOf_of_length 5 h]
end

theorem fenceBody_of_length (h : c.params.length ≠ 0) : fenceBody c s = reject .badParam s :=
  if_neg fun hp => h (by rw [hp]; rfl)

theorem resolveRetryBody_of_length (h : c.params.length ≠ 3) : resolveRetryBody c s = reject .badParam s := by
  rw [resolveRetryBody, resolveOf_of_length 1 h]

theorem resolveDenyBody_of_length (h : c.params.length ≠ 3) : resolveDenyBody c s = reject .badParam s := by
  rw [resolveDenyBody, resolveOf_of_length 2 h]

theorem readMissesBody_of_length (h : c.params.length ≠ 1) : readMissesBody c s = reject .badParam s := by
  unfold readMissesBody
  split
  case h_1 hp => exact absurd (by rw [hp]; rfl) h
  case h_2 => rfl

theorem logReadBody_of_length (h : c.params.length ≠ 1) : logReadBody c s = reject .badParam s := by
  unfold logReadBody
  split
  case h_1 hp => exact absurd (by rw [hp]; rfl) h
  case h_2 => rfl

/-- R17: an INSTALL ANY of the owner whose step 5 rejects it. -/
theorem exec_installAny_reject {status : ReplyStatus} (h : FromOwner 0x30 c s)
    (hbody : installAnyBody c s = some (reject status s)) :
    exec (.installAny c) s = .next (s.answered 0x30 c status []) := by
  rw [exec_installAny, execInstallAny, envelope_of_fromOwner h, hbody]
  exact congrArg _ (finish_now (owner_of_fromOwner h) (up_of_fromOwner h) ..)

theorem installAnyBody_of_none (h : installOf c.params = none) : installAnyBody c s = some (reject .badParam s) := by
  rw [installAnyBody, h]

end

/-- R188: of an owner command with parameters of any other width than `width`. -/
def RejectsWidth (code : Byte) (row : Command → Instr) (width : Nat) : Prop :=
  (code, width) ∈ paramWidth ∧ ∀ (c : Command) (s : State), FromOwner code c s → c.params.length ≠ width →
    exec (row c) s = .next (s.answered code c .badParam [])

theorem rejectsWidth_of_body {code : Byte} {row : Command → Instr} {width : Nat} (body : Command → State → State × Reply)
    (hwidth : (code, width) ∈ paramWidth)
    (hexec : ∀ c s, exec (row c) s = .next (takeCommand code false c (body c) s))
    (hbody : ∀ {c : Command} {s : State}, c.params.length ≠ width → body c s = reject .badParam s) :
    RejectsWidth code row width :=
  ⟨hwidth, fun c s h hlength => (hexec c s).trans (congrArg _ (takeCommand_reject h false (hbody hlength)))⟩

/-- R188: every owner row rejects a list of another width than its own. -/
theorem rejectsWidth_of_row : ∀ r ∈ ownerRows, ∃ width, RejectsWidth r.1 r.2 width := by
  simp only [ownerRows, List.forall_mem_cons]
  exact ⟨⟨0, rejectsWidth_of_body relinquishBody (by decide) (fun _ _ => rfl) (withoutParams_of_length _)⟩,
    ⟨0, rejectsWidth_of_body openBody (by decide) (fun _ _ => rfl) (withoutParams_of_length _)⟩,
    ⟨0, rejectsWidth_of_body closeBody (by decide) (fun _ _ => rfl) (withoutParams_of_length _)⟩,
    ⟨0, rejectsWidth_of_body quiesceBody (by decide) (fun _ _ => rfl) (withoutParams_of_length _)⟩,
    ⟨0, rejectsWidth_of_body releaseBody (by decide) (fun _ _ => rfl) (withoutParams_of_length _)⟩,
    ⟨1, rejectsWidth_of_body resetTrafficBody (by decide) (fun _ _ => rfl) resetTrafficBody_of_length⟩,
    ⟨1, rejectsWidth_of_body resetFullBody (by decide) (fun _ _ => rfl) resetFullBody_of_length⟩,
    ⟨3, rejectsWidth_of_body setTimingBody (by decide) (fun _ _ => rfl) setTimingBody_of_length⟩,
    ⟨3, rejectsWidth_of_body bindStreamBody (by decide) (fun _ _ => rfl) bindStreamBody_of_length⟩,
    ⟨2, rejectsWidth_of_body readStreamBody (by decide) (fun _ _ => rfl) readStreamBody_of_length⟩,
    ⟨7, rejectsWidth_of_body setDomainBody (by decide) (fun _ _ => rfl) setDomainBody_of_length⟩,
    ⟨1, rejectsWidth_of_body readDomainBody (by decide) (fun _ _ => rfl) readDomainBody_of_length⟩,
    ⟨16, rejectsWidth_of_body installBody (by decide) (fun _ _ => rfl) fun h => installBody_of_none (installOf_of_length h)⟩,
    ⟨16, by decide, fun _ _ h hw => exec_installAny_reject h (installAnyBody_of_none (installOf_of_length hw))⟩,
    ⟨2, rejectsWidth_of_body setPinBody (by decide) (fun _ _ => rfl) setPinBody_of_length⟩,
    ⟨1, rejectsWidth_of_body readEntryBody (by decide) (fun _ _ => rfl) readEntryBody_of_length⟩,
    ⟨11, rejectsWidth_of_body invalidateIndexBody (by decide) (fun _ _ => rfl) invalidateIndexBody_of_length⟩,
    ⟨11, rejectsWidth_of_body invalidateDomainBody (by decide) (fun _ _ => rfl) invalidateDomainBody_of_length⟩,
    ⟨11, rejectsWidth_of_body invalidateRangeBody (by decide) (fun _ _ => rfl) invalidateRangeBody_of_length⟩,
    ⟨11, rejectsWidth_of_body invalidateUnpinnedBody (by decide) (fun _ _ => rfl) invalidateUnpinnedBody_of_length⟩,
    ⟨11, rejectsWidth_of_body invalidateAllBody (by decide) (fun _ _ => rfl) invalidateAllBody_of_length⟩,
    ⟨0, rejectsWidth_of_body fenceBody (by decide) (fun _ _ => rfl) fenceBody_of_length⟩,
    ⟨3, rejectsWidth_of_body resolveRetryBody (by decide) (fun _ _ => rfl) resolveRetryBody_of_length⟩,
    ⟨3, rejectsWidth_of_body resolveDenyBody (by decide) (fun _ _ => rfl) resolveDenyBody_of_length⟩,
    ⟨1, rejectsWidth_of_body readMissesBody (by decide) (fun _ _ => rfl) readMissesBody_of_length⟩,
    ⟨1, rejectsWidth_of_body logReadBody (by decide) (fun _ _ => rfl) logReadBody_of_length⟩, nofun⟩

/-- R187: a code has one width. -/
theorem paramWidth_unique {code : Byte} {v w : Nat} (hv : (code, v) ∈ paramWidth) (hw : (code, w) ∈ paramWidth) : v = w :=
  congrArg Prod.snd (List.inj_on_of_nodup_map (f := Prod.fst) (by decide) hv hw rfl)

/-- Settles O24: the owner's rows by their widths, then CLAIM and STATUS from any node. -/
theorem wrongWidth : Obligations.WrongWidth := by
  refine ⟨fun code row width c s hrow hwidth h hlength => ?_, fun code row c s hrow h hfresh hparams => ?_⟩
  · obtain ⟨w, hw, hrejects⟩ := rejectsWidth_of_row (code, row) hrow
    exact hrejects c s h (paramWidth_unique hwidth hw ▸ hlength)
  · have hlength : c.params.length ≠ 0 := fun h0 => hparams (List.eq_nil_of_length_eq_zero h0)
    obtain ⟨rfl, rfl⟩ | ⟨rfl, rfl⟩ := hrow
    · have hbody : claimBody c s = reject .badParam s := withoutParams_of_length _ hlength
      exact ⟨fun howner => congrArg _ (takeCommand_fromAny_answered h hfresh hbody h.1 (.inl howner)),
        fun howner => congrArg _ (takeCommand_fromAny_replied h hfresh hbody howner)⟩
    · have hbody : statusBody c s = reject .badParam s := withoutParams_of_length _ hlength
      exact ⟨fun howner => congrArg _ (takeCommand_fromAny_answered h hfresh hbody h.1 (.inl howner)),
        fun howner => congrArg _ (takeCommand_fromAny_replied h hfresh hbody howner)⟩

section
variable {c : Command} {s : State}

/-! ### RELINQUISH -/

/-- R101: a live record denied, in the words of the statements. -/
theorem denyRecord_eq (m : MissRec) (s : State) : denyRecord m s =
    ((s.heldUnder m.ticket).foldl (fun s h => (s.refused .denied h.req).reported .denied h.domain h.req) s).forgot
      m.ticket := by
  simp only [denyRecord, freeRecord_eq_forgot, heldOf_eq_heldUnder, refuse_reported (code := .denied) rfl]

theorem denyRecord_replays (m : MissRec) (s : State) : (denyRecord m s).replays = s.replays := by
  have hheld : ((s.heldOf m.ticket).foldl (fun s h => refuse .denied h.domain h.req s) s).mu.held = s.mu.held :=
    foldl_keeps (·.mu.held) _ (by intros; simp) _ _
  rw [denyRecord, State.replays, freeRecord, hheld, State.replays, List.filter_filter]
  refine List.filter_congr fun h _ => ?_
  cases h.place <;> simp

theorem replyPending_iff (s : State) : s.replyPending = true ↔ s.fu.fences ≠ [] ∨ s.mc.quiesce ≠ none := by
  simp [State.replyPending, Option.isSome_iff_ne_none]

theorem relinquishBody_of_pending (hp : c.params = []) (hpending : s.fu.fences ≠ [] ∨ s.mc.quiesce ≠ none) :
    relinquishBody c s = reject .busy s := by
  rw [relinquishBody, withoutParams, if_pos hp, if_pos ((replyPending_iff s).2 hpending)]

theorem relinquishBody_of_idle (hp : c.params = []) (hfences : s.fu.fences = []) (hquiesce : s.mc.quiesce = none) :
    relinquishBody c s = accept [] (relinquishOwner s) := by
  rw [relinquishBody, withoutParams, if_pos hp, if_neg]
  rw [replyPending_iff, hfences, hquiesce]
  exact fun h => h.elim (absurd rfl) (absurd rfl)

/-- Settles O27: the denials are the fold of the model's own. -/
theorem relinquishDenies : Obligations.RelinquishDenies := by
  intro c s h hp
  refine ⟨fun hpending => congrArg _ (takeCommand_reject h false (relinquishBody_of_pending hp hpending)),
    fun hfences hquiesce => ?_⟩
  intro denied
  have hdenied : s.mu.records.foldl (fun s m => denyRecord m s) s = denied := by simp only [denyRecord_eq, denied]
  have hkept {α : Type} (π : State → α) (hπ : ∀ s m, π (denyRecord m s) = π s) : π denied = π s := by
    rw [← hdenied]
    exact foldl_keeps π _ hπ _ _
  have hup : denied.fabric = .up := (hkept (·.fabric) (by simp)).trans (up_of_fromOwner h)
  refine ⟨?_, ?_, hkept State.replays fun s m => denyRecord_replays m s, hkept (·.mu.rp) (by simp),
    hkept (·.mu.ticket) (by simp), hkept (·.ports) (by simp), hkept (·.fu) (by simp), hkept (·.tu) (by simp),
    hkept (·.du) (by simp), hkept (·.tb) (by simp)⟩
  · have hbody := relinquishBody_of_idle hp hfences hquiesce
    rw [relinquishOwner, hdenied] at hbody
    exact congrArg _ (takeCommand_now h false hbody hup)
  · rw [← hdenied]
    exact foldl_denyRecord_none s

/-! ### QUIESCE -/

theorem quiesceBody_of_quiet (hp : c.params = []) (hopen : s.mc.admission = .opened) (hquiet : s.Quiet) :
    quiesceBody c s = accept [] (s.setAdmission .quiesced) := by
  rw [quiesceBody, withoutParams, if_pos hp, hopen]
  exact if_pos ((quiet_iff_empty s).2 hquiet)

theorem quiesceBody_of_not_quiet (hp : c.params = []) (hopen : s.mc.admission = .opened) (hquiet : ¬ s.Quiet) :
    quiesceBody c s = ({ s with mc := { s.mc with
      admission := .draining, quiesce := some { sequence := c.sequence, node := c.source } } },
      .deferred .pendingQuiesce) := by
  rw [quiesceBody, withoutParams, if_pos hp, hopen]
  exact if_neg fun h => hquiet ((quiet_iff_empty s).1 h)

/-- Settles O30: the admission states one by one. -/
theorem quiesceDecides : Obligations.QuiesceDecides := by
  intro c s h hp
  refine ⟨fun hopen => ⟨fun hquiet => ?_, fun hquiet => ?_⟩, fun hdraining => ?_, fun hquiesced => ?_, fun hclosed => ?_⟩
  · exact congrArg _ (takeCommand_now h false (quiesceBody_of_quiet hp hopen hquiet) (up_of_fromOwner h))
  · exact congrArg _ (takeCommand_deferred h false (quiesceBody_of_not_quiet hp hopen hquiet))
  · have hbody : quiesceBody c s = reject .inProgress s := by rw [quiesceBody, withoutParams, if_pos hp, hdraining]
    exact congrArg _ (takeCommand_reject h false hbody)
  · have hbody : quiesceBody c s = accept [] s := by rw [quiesceBody, withoutParams, if_pos hp, hquiesced]
    exact congrArg _ (takeCommand_now h false hbody (up_of_fromOwner h))
  · have hbody : quiesceBody c s = reject .wrongState s := by rw [quiesceBody, withoutParams, if_pos hp, hclosed]
    exact congrArg _ (takeCommand_reject h false hbody)
end

end Sys2Proof.Machine
end

section
/-! PROOFS. The Mapping Table's commands, RESOLVE and READ MISSES (R11 to R15, R19, R20, R100 to R102, R110, R114 to R120,
R189 to R191). -/

namespace Sys2Proof.Machine

/-! ### The mapping entry record (R189, R190) -/

theorem sizeOf_of_large {n : Nat} (h : 3 < n) : sizeOf n = none := by
  match n, h with
  | _ + 4, _ => rfl

theorem sizeOf_of_code {n : Nat} (h : n ≤ 3) :
    sizeOf n = some (if n = 0 then .s4K else if n = 1 then .s32K else if n = 2 then .s256K else .s2M) := by
  interval_cases n <;> rfl

theorem of16_eq_ones_iff (t1 t0 : Byte) : of16 t1 t0 = 0xFFFF ↔ t1 = 0xFF ∧ t0 = 0xFF := by
  refine ⟨fun h => ⟨?_, ?_⟩, ?_⟩
  · exact (BitVec.extractLsb'_append_eq_left (a := t1) (b := t0)).symm.trans (congrArg (BitVec.extractLsb' 8 8) h)
  · exact (BitVec.extractLsb'_append_eq_right (a := t1) (b := t0)).symm.trans (congrArg (BitVec.extractLsb' 0 8) h)
  · rintro ⟨rfl, rfl⟩
    rfl

/-- R190: the resolve ticket of a record that is not malformed. -/
theorem ticketOf_of_good {absent : Bool} {t1 t0 : Byte} (h : absent = true → t1 = 0xFF ∧ t0 = 0xFF) :
    ticketOf absent (of16 t1 t0) = some (if absent = true then none else some (t1 ++ t0)) := by
  cases absent with
  | false => rfl
  | true => exact if_pos ((of16_eq_ones_iff ..).2 (h rfl))

/-- Settles O37: size class and ticket decide whether the record is read. -/
theorem mappingRecordReads : Obligations.MappingRecordReads := by
  intro i f g n c3 c2 c1 c0 b5 b4 b3 b2 b1 b0 t1 t0 other record code absent
  refine ⟨fun hbad => ?_, fun hcode hticket => ?_, fun hlength => installOf_of_length hlength⟩
  · simp only [record, installOf]
    obtain hcode | ⟨habsent, hne⟩ := hbad
    · rw [sizeOf_of_large hcode]
    · have hticket : ticketOf (g.getLsbD 7) (of16 t1 t0) = none := by
        rw [ticketOf, if_pos habsent, if_neg]
        rw [of16_eq_ones_iff, not_and_or]
        exact hne
      rw [hticket]
      cases sizeOf (g.toNat / 16 % 8) <;> rfl
  · exact installOf_of_codes (sizeOf_of_code hcode) (ticketOf_of_good hticket)

section
variable {c : Command} {s : State}

/-! ### INSTALL -/

/-- R14: the pinned entries other than `i`, listed. -/
theorem pinnedBut_eq_length (i : EntryIndex) (s : State) : s.pinnedBut (fun j => j == i) =
    ((List.finRange 64).filter fun j => decide (j ≠ i) && (s.tu.entries[j].valid && s.tu.entries[j].pinned)).length := by
  rw [State.pinnedBut, List.countP_eq_length_filter]
  refine congrArg List.length (List.filter_congr fun j _ => ?_)
  simp only [Bool.and_assoc, Bool.beq_eq_decide_eq, ne_eq, decide_not]

theorem bad_of_not_fits {own : Byte} {a : InstallArgs} (h : ¬ Fits own a) : a.bad own = true := by
  rwa [← bad_eq_false_iff, Bool.not_eq_false] at h

theorem overlapLawBroken_at {a : InstallArgs} {i : EntryIndex} :
    overlapLawBroken a (fun j => j == i) s = true ↔ Clashes a (fun j => j = i) s :=
  overlapLawBroken_iff fun _ => beq_iff_eq

theorem overlapLawBroken_any {a : InstallArgs} :
    overlapLawBroken a (fun _ => false) s = true ↔ Clashes a (fun _ => False) s :=
  overlapLawBroken_iff fun _ => iff_of_false Bool.false_ne_true id

theorem pinLimitBroken_iff {a : InstallArgs} {skip : EntryIndex → Bool} :
    pinLimitBroken a skip s = true ↔ a.pin = true ∧ 48 ≤ s.pinnedBut skip := by
  rw [← Bool.not_eq_false, pinLimitBroken_eq_false_iff]
  simp only [Classical.not_imp, not_lt]

section
variable {a : InstallArgs} {i : EntryIndex} (hargs : installOf c.params = some a) (hindex : a.index.toNat = i.val)
include hargs hindex

theorem installBody_of_not_fits (hfits : ¬ Fits s.ownNode a) : installBody c s = reject .badParam s := by
  rw [installBody, hargs]
  simp only [indexOf_of_toNat hindex, if_pos (bad_of_not_fits hfits)]

theorem installBody_of_clash (hfits : Fits s.ownNode a) (hclash : Clashes a (fun j => j = i) s) :
    installBody c s = reject .overlap s := by
  rw [installBody, hargs]
  simp only [indexOf_of_toNat hindex, (bad_eq_false_iff ..).2 hfits, overlapLawBroken_at.2 hclash]
  rfl

theorem installBody_of_free (hfits : Fits s.ownNode a) (hfree : ¬ Clashes a (fun j => j = i) s) : installBody c s =
    if pinLimitBroken a (fun j => j == i) s then reject .pinLimit s else placeAt i a s := by
  have hoverlap : overlapLawBroken a (fun j => j == i) s = false := by
    rwa [← Bool.not_eq_true, overlapLawBroken_at]
  rw [installBody, hargs]
  simp only [indexOf_of_toNat hindex, (bad_eq_false_iff ..).2 hfits, hoverlap]
  rfl
end

theorem exec_install (c : Command) (s : State) :
    exec (.install c) s = .next (takeCommand 0x30 false c (installBody c) s) := rfl

theorem installAnyBody_of_args {a : InstallArgs} (hargs : installOf c.params = some a) (hany : a.index = 0xFF)
    {status : ReplyStatus}
    (h : a.bad s.ownNode = true ∧ status = .badParam ∨
      a.bad s.ownNode = false ∧ overlapLawBroken a (fun _ => false) s = true ∧ status = .overlap ∨
      a.bad s.ownNode = false ∧ overlapLawBroken a (fun _ => false) s = false ∧
        pinLimitBroken a (fun _ => false) s = true ∧ status = .pinLimit) :
    installAnyBody c s = some (reject status s) := by
  rw [installAnyBody, hargs]
  obtain ⟨hbad, rfl⟩ | ⟨hbad, hoverlap, rfl⟩ | ⟨hbad, hoverlap, hlimit, rfl⟩ := h
  · simp only [hany, hbad, ne_eq, not_true_eq_false, if_false, if_true]
  · simp only [hany, hbad, hoverlap, ne_eq, not_true_eq_false, if_false, if_true, Bool.false_eq_true]
  · simp only [hany, hbad, hoverlap, hlimit, ne_eq, not_true_eq_false, if_false, if_true, Bool.false_eq_true]

/-- Settles O39: the checks in their order, at an index and for ANY. -/
theorem installChecks : Obligations.InstallChecks := by
  intro c s h
  refine ⟨fun hnone => ⟨?_, exec_installAny_reject h (installAnyBody_of_none hnone)⟩,
    fun a hargs => ⟨fun hlarge => ?_, fun i hindex => ⟨fun hfits => ?_, fun hfits hclash => ?_,
      fun hfits hfree hpin hfull => ?_⟩, fun hany => ⟨fun hfits => ?_, fun hfits hclash => ?_,
      fun hfits hfree hpin hfull => ?_⟩⟩⟩
  · exact congrArg _ (takeCommand_reject h false (installBody_of_none hnone))
  · have hbody : installBody c s = reject .badParam s := by
      rw [installBody, hargs]
      simp only [indexOf_of_large hlarge]
    exact congrArg _ (takeCommand_reject h false hbody)
  · exact congrArg _ (takeCommand_reject h false (installBody_of_not_fits hargs hindex hfits))
  · exact congrArg _ (takeCommand_reject h false (installBody_of_clash hargs hindex hfits hclash))
  · have hbody := (installBody_of_free hargs hindex hfits hfree).trans
      (if_pos (pinLimitBroken_iff.2 ⟨hpin, by rwa [pinnedBut_eq_length]⟩))
    exact congrArg _ (takeCommand_reject h false hbody)
  · exact exec_installAny_reject h (installAnyBody_of_args hargs hany (.inl ⟨bad_of_not_fits hfits, rfl⟩))
  · exact exec_installAny_reject h (installAnyBody_of_args hargs hany
      (.inr (.inl ⟨(bad_eq_false_iff ..).2 hfits, overlapLawBroken_any.2 hclash, rfl⟩)))
  · have hoverlap : overlapLawBroken a (fun _ => false) s = false := by
      rwa [← Bool.not_eq_true, overlapLawBroken_any]
    have hlimit : pinLimitBroken a (fun _ => false) s = true :=
      pinLimitBroken_iff.2 ⟨hpin, hfull.trans_eq (pinnedCount_eq_pins s).symm⟩
    exact exec_installAny_reject h (installAnyBody_of_args hargs hany
      (.inr (.inr ⟨(bad_eq_false_iff ..).2 hfits, hoverlap, hlimit, rfl⟩)))

/-- Settles O40: the placement, then the ticket. -/
theorem installPlaces : Obligations.InstallPlaces := by
  intro c a i s h hargs hindex hfits hfree hroom displaced
  have hlimit : ¬ pinLimitBroken a (fun j => j == i) s = true := by
    rw [pinLimitBroken_iff, pinnedBut_eq_length]
    exact fun hfull => absurd (hroom hfull.1) (Nat.not_lt.2 hfull.2)
  have hbody : installBody c s = ((s.placed i a).resolved a.ticket,
      .now .ok [BitVec.ofNat 8 i.val, displaced, s.resolveOutcome a.ticket]) :=
    (installBody_of_free hargs hindex hfits hfree).trans ((if_neg hlimit).trans (placeAt_eq i a s))
  have hexec : exec (.install c) s = .next (((s.placed i a).resolved a.ticket).answered 0x30 c .ok
      [BitVec.ofNat 8 i.val, displaced, s.resolveOutcome a.ticket]) :=
    congrArg _ (takeCommand_now h false hbody (by simpa using up_of_fromOwner h))
  rw [hexec]
  refine ⟨fun hnone => ?_, fun t ht => ⟨fun hstale => ?_, fun hlive => ?_⟩⟩
  · rw [hnone]
    rfl
  · have hno : ¬ ∃ m ∈ s.mu.records, m.ticket = t := fun ⟨m, hm, hticket⟩ => hstale m hm hticket
    simp only [ht, State.resolved, State.resolveOutcome, if_neg hno]
    rw [if_neg (by exact hno)]
  · simp only [ht, State.resolved, State.resolveOutcome, if_pos hlive]
    rw [if_pos (by exact hlive)]

/-! ### INVALIDATE -/

/-- R116: the model's invalidation is the one the statements name. -/
theorem invalidate_eq_invalidated (named : EntryIndex → Entry → Bool) (s : State) :
    invalidate named s = s.invalidated named := by
  have hmark : (fun q : Staged => (s.named named).contains q.entry) =
      fun q => s.tu.entries[q.entry].valid && named q.entry s.tu.entries[q.entry] := by
    funext q
    rw [Bool.eq_iff_iff, List.contains_iff_mem, State.named, List.mem_filter]
    exact and_iff_right (List.mem_finRange _)
  rw [invalidate, State.invalidated, hmark]
  simp only [Bool.and_eq_true, Entry.invalidated]

section
variable {named : EntryIndex → Entry → Bool} (fence : Bool)

theorem invalidateWith_plain : invalidateWith c false named s =
    accept [BitVec.ofNat 8 (s.countNamed named)] (s.invalidated named) := by
  rw [invalidateWith, ← invalidate_eq_invalidated]
  rfl

theorem invalidateWith_full (hfull : 4 ≤ s.fu.fences.length) : invalidateWith c true named s = reject .busy s := by
  rw [invalidateWith, if_pos rfl]
  exact if_pos hfull

theorem invalidateWith_room (hroom : s.fu.fences.length < 4) : invalidateWith c true named s =
    capture .invalidate c (s.countNamed named) (s.invalidated named) := by
  rw [invalidateWith, if_pos rfl, ← invalidate_eq_invalidated]
  exact if_neg (Nat.not_le.2 hroom)
end

/-- R187: the parameters of an INVALIDATE with its selector. -/
theorem invalidateOf_of_flag {flag : Byte} {fence : Bool} (hflag : boolOf flag = some fence) (selector x : Byte)
    (base length : Addr) : invalidateOf selector ([selector, flag, x] ++ be32 base ++ be32 length) =
      some (fence, x, base.toNat, length.toNat) := by
  simp only [be32, List.cons_append, List.nil_append, invalidateOf, hflag, of32_be32, if_true]

theorem invalidateOf_of_badFlag {flag : Byte} (hflag : boolOf flag = none) (selector row x : Byte)
    (base length : Addr) : invalidateOf row ([selector, flag, x] ++ be32 base ++ be32 length) = none := by
  simp only [be32, List.cons_append, List.nil_append, invalidateOf, hflag, ite_self]

theorem invalidateOf_of_selector {selector row : Byte} (hne : selector ≠ row) (flag x : Byte)
    (base length : Addr) : invalidateOf row ([selector, flag, x] ++ be32 base ++ be32 length) = none := by
  simp only [be32, List.cons_append, List.nil_append, invalidateOf, if_neg hne]

/-- R187: whatever its selector and flag, an INVALIDATE's parameters are read as they are, or not at all. -/
theorem invalidateOf_cases (row selector flag x : Byte) (base length : Addr) :
    invalidateOf row ([selector, flag, x] ++ be32 base ++ be32 length) = none ∨
      ∃ fence, invalidateOf row ([selector, flag, x] ++ be32 base ++ be32 length) =
        some (fence, x, base.toNat, length.toNat) := by
  cases hflag : boolOf flag with
  | none => exact .inl (invalidateOf_of_badFlag hflag ..)
  | some fence =>
    by_cases hselector : selector = row
    · exact .inr ⟨fence, by rw [hselector, invalidateOf_of_flag hflag]⟩
    · exact .inl (invalidateOf_of_selector hselector ..)

theorem scopeOf_of_names {x : Byte} {sc : Scope}
    (h : x = 0xFF ∧ sc = .shared ∨ ∃ d : Domain, x.toNat = d.val ∧ sc = .domain d) : scopeOf x = some sc := by
  obtain ⟨rfl, rfl⟩ | ⟨d, hd, rfl⟩ := h
  · rfl
  · have hne : x ≠ 0xFF := by
      rintro rfl
      have := d.isLt
      have : (0xFF : Byte).toNat = 255 := rfl
      omega
    rw [scopeOf, if_neg hne, domainOf_eq_some_iff.2 hd]

/-- R114, R115: an INVALIDATE whose parameters pass, whatever its row. -/
theorem exec_of_selects {row : Command → Instr} {selector flag x : Byte} {base length : Addr}
    {named : EntryIndex → Entry → Bool} {fence : Bool}
    (hp : c.params = [selector, flag, x] ++ be32 base ++ be32 length) (hflag : boolOf flag = some fence)
    (hselects : Selects row selector x base.toNat length.toNat named) :
    ∃ body : State → State × Reply, exec (row c) s = .next (takeCommand 0x33 false c body s) ∧
      body s = invalidateWith c fence named s := by
  obtain ⟨rfl, rfl, i, hi, rfl⟩ | ⟨rfl, rfl, d, hd, rfl⟩ | ⟨rfl, rfl, hpos, hend, sc, hsc, rfl⟩ | ⟨rfl, rfl, rfl⟩ |
    ⟨rfl, rfl, rfl⟩ := hselects
  · refine ⟨invalidateIndexBody c, rfl, ?_⟩
    rw [invalidateIndexBody, hp, invalidateOf_of_flag hflag]
    simp only [indexOf_of_toNat hi, Bool.beq_eq_decide_eq]
  · refine ⟨invalidateDomainBody c, rfl, ?_⟩
    rw [invalidateDomainBody, hp, invalidateOf_of_flag hflag]
    simp only [domainOf_eq_some_iff.2 hd, Bool.beq_eq_decide_eq]
  · refine ⟨invalidateRangeBody c, rfl, ?_⟩
    rw [invalidateRangeBody, hp, invalidateOf_of_flag hflag]
    simp only [scopeOf_of_names hsc, if_neg (not_or.2 ⟨hpos, Nat.not_lt.2 hend⟩), Bool.beq_eq_decide_eq, Entry.overlaps,
      Bool.decide_and]
  · refine ⟨invalidateUnpinnedBody c, rfl, ?_⟩
    rw [invalidateUnpinnedBody, hp, invalidateOf_of_flag hflag]
  · refine ⟨invalidateAllBody c, rfl, ?_⟩
    rw [invalidateAllBody, hp, invalidateOf_of_flag hflag]

theorem scopeOf_of_large {x : Byte} (h : 15 < x.toNat) (hne : x ≠ 0xFF) : scopeOf x = none := by
  rw [scopeOf, if_neg hne, domainOf_of_large h]

section
variable {selector flag x : Byte} {base length : Addr} (hp : c.params = [selector, flag, x] ++ be32 base ++ be32 length)
include hp

theorem invalidateIndexBody_of_bad (hbad : selector = 0 ∨ 5 < selector.toNat ∨ 1 < flag.toNat ∨ 63 < x.toNat) :
    invalidateIndexBody c s = reject .badParam s := by
  rw [invalidateIndexBody, hp]
  obtain rfl | hlarge | hflag | hx := hbad
  · rw [invalidateOf_of_selector (by decide)]
  · rw [invalidateOf_of_selector (by rintro rfl; exact absurd hlarge (by decide))]
  · rw [invalidateOf_of_badFlag (boolOf_of_large hflag)]
  · obtain hnone | ⟨fence, hsome⟩ := invalidateOf_cases 1 selector flag x base length
    · rw [hnone]
    · simp only [hsome, indexOf_of_large hx]

theorem invalidateDomainBody_of_bad (hbad : 1 < flag.toNat ∨ 15 < x.toNat) :
    invalidateDomainBody c s = reject .badParam s := by
  rw [invalidateDomainBody, hp]
  obtain hflag | hx := hbad
  · rw [invalidateOf_of_badFlag (boolOf_of_large hflag)]
  · obtain hnone | ⟨fence, hsome⟩ := invalidateOf_cases 2 selector flag x base length
    · rw [hnone]
    · simp only [hsome, domainOf_of_large hx]

theorem invalidateRangeBody_of_bad (hbad : 1 < flag.toNat ∨ (15 < x.toNat ∧ x ≠ 0xFF) ∨ length = 0 ∨
    2 ^ 32 < base.toNat + length.toNat) : invalidateRangeBody c s = reject .badParam s := by
  rw [invalidateRangeBody, hp]
  obtain hflag | hbad := hbad
  · rw [invalidateOf_of_badFlag (boolOf_of_large hflag)]
  obtain hnone | ⟨fence, hsome⟩ := invalidateOf_cases 3 selector flag x base length
  · rw [hnone]
  · simp only [hsome]
    obtain ⟨hx, hne⟩ | hrange := hbad
    · rw [scopeOf_of_large hx hne]
    · cases scopeOf x with
      | none => rfl
      | some sc => exact if_pos (hrange.imp_left fun h => by rw [h]; rfl)

theorem invalidateUnpinnedBody_of_bad (hflag : 1 < flag.toNat) : invalidateUnpinnedBody c s = reject .badParam s := by
  rw [invalidateUnpinnedBody, hp, invalidateOf_of_badFlag (boolOf_of_large hflag)]

theorem invalidateAllBody_of_bad (hflag : 1 < flag.toNat) : invalidateAllBody c s = reject .badParam s := by
  rw [invalidateAllBody, hp, invalidateOf_of_badFlag (boolOf_of_large hflag)]
end

/-- Settles O43: what the parameters name, then the flag, the room and the ORT. -/
theorem invalidateDecides : Obligations.InvalidateDecides := by
  refine ⟨fun c row selector flag x base length named s h hp hselects => ?_,
    fun c row selector flag x base length s h hp hbad => ?_⟩
  · refine ⟨fun hflag => ?_, fun hflag hfull => ?_, fun hflag hroom hempty => ?_, fun hflag hroom hoccupied => ?_⟩
    · obtain ⟨body, hexec, hbody⟩ := exec_of_selects (s := s) (fence := false) hp (by rw [hflag]; rfl) hselects
      rw [hexec, takeCommand_now h false (hbody.trans invalidateWith_plain) (up_of_fromOwner h)]
    all_goals
      obtain ⟨body, hexec, hbody⟩ := exec_of_selects (s := s) (fence := true) hp (by rw [hflag]; rfl) hselects
      rw [hexec]
    · rw [takeCommand_reject h false (hbody.trans (invalidateWith_full hfull))]
    · have hcapture := (invalidateWith_room (c := c) (named := named) hroom).trans
        (capture_of_empty (s := s.invalidated named) hempty)
      exact congrArg _ (takeCommand_now h false (hbody.trans hcapture) (up_of_fromOwner h))
    · have hcapture := (invalidateWith_room (c := c) (named := named) hroom).trans
        (capture_of_occupied (s := s.invalidated named) hoccupied)
      exact congrArg _ (takeCommand_deferred h false (hbody.trans hcapture))
  · obtain ⟨rfl, h'⟩ | ⟨rfl, h'⟩ | ⟨rfl, h'⟩ | ⟨rfl, h'⟩ | ⟨rfl, h'⟩ := hbad
    · exact congrArg _ (takeCommand_reject h false (invalidateIndexBody_of_bad hp h'))
    · exact congrArg _ (takeCommand_reject h false (invalidateDomainBody_of_bad hp h'))
    · exact congrArg _ (takeCommand_reject h false (invalidateRangeBody_of_bad hp h'))
    · exact congrArg _ (takeCommand_reject h false (invalidateUnpinnedBody_of_bad hp h'))
    · exact congrArg _ (takeCommand_reject h false (invalidateAllBody_of_bad hp h'))

/-! ### RESOLVE -/

theorem resolveOf_ticket (t : Half) (action row : Byte) :
    resolveOf row (be16 t ++ [action]) = if action = row then some t else none := by
  simp only [be16, List.cons_append, List.nil_append, resolveOf, of16_be16]

section
variable {t : Half} {action : Byte} (hp : c.params = be16 t ++ [action])
include hp

theorem resolveRetryBody_of_action (haction : action ≠ 1) : resolveRetryBody c s = reject .badParam s := by
  rw [resolveRetryBody, hp, resolveOf_ticket, if_neg haction]

theorem resolveRetryBody_of_ticket (haction : action = 1) : resolveRetryBody c s =
    if ∃ m ∈ s.mu.records, m.ticket = t then accept [BitVec.ofNat 8 (s.heldUnder t).length] (s.retried t)
    else reject .stale s := by
  have hlive := recordOf_isSome_iff t s
  rw [resolveRetryBody, hp, resolveOf_ticket, if_pos haction]
  simp only [← retryRecord_eq_retried, ← heldOf_eq_heldUnder]
  cases hrecord : s.recordOf t with
  | none => rw [if_neg fun h => absurd (hlive.2 h) (by rw [hrecord]; exact Bool.false_ne_true)]
  | some m => rw [if_pos (hlive.1 (by rw [hrecord]; rfl)), numByte]

theorem resolveDenyBody_of_ticket (haction : action = 2) : resolveDenyBody c s =
    if ∃ m ∈ s.mu.records, m.ticket = t then
      accept [BitVec.ofNat 8 (s.heldUnder t).length] (((s.heldUnder t).foldl
        (fun s h => (s.refused .denied h.req).reported .denied h.domain h.req) s).forgot t)
    else reject .stale s := by
  have hlive := recordOf_isSome_iff t s
  rw [resolveDenyBody, hp, resolveOf_ticket, if_pos haction]
  simp only [heldOf_eq_heldUnder, denyRecord_eq]
  cases hrecord : s.recordOf t with
  | none => rw [if_neg fun h => absurd (hlive.2 h) (by rw [hrecord]; exact Bool.false_ne_true)]
  | some m =>
    have hticket : m.ticket = t := beq_iff_eq.1 (List.find?_some (p := fun m : MissRec => m.ticket == t) hrecord)
    rw [if_pos (hlive.1 (by rw [hrecord]; rfl))]
    simp only [hticket, numByte]
end

/-- Settles O45: the action, then the ticket. -/
theorem resolveDecides : Obligations.ResolveDecides := by
  intro c t action s h hp count
  refine ⟨fun haction => congrArg _ (takeCommand_reject h false (resolveRetryBody_of_action hp haction)),
    fun hstale => ?_, fun hlive => ?_⟩
  · have hno : ¬ ∃ m ∈ s.mu.records, m.ticket = t := fun ⟨m, hm, hticket⟩ => hstale m hm hticket
    exact ⟨fun haction => congrArg _ (takeCommand_reject h false ((resolveRetryBody_of_ticket hp haction).trans (if_neg hno))),
      fun haction => congrArg _ (takeCommand_reject h false ((resolveDenyBody_of_ticket hp haction).trans (if_neg hno)))⟩
  · refine ⟨fun haction => ?_, fun haction => ?_⟩
    · exact congrArg _ (takeCommand_now h false ((resolveRetryBody_of_ticket hp haction).trans (if_pos hlive))
        (up_of_fromOwner h))
    · have hbody := (resolveDenyBody_of_ticket hp haction).trans (if_pos hlive)
      refine congrArg _ (takeCommand_now h false hbody ?_)
      have hfabric : ((s.heldUnder t).foldl (fun s h => (s.refused .denied h.req).reported .denied h.domain h.req) s).fabric =
          s.fabric := by
        simp only [← refuse_reported (code := .denied) rfl]
        exact foldl_keeps (·.fabric) _ (by intros; simp) _ _
      exact hfabric.trans (up_of_fromOwner h)

/-! ### READ MISSES -/

theorem readMissesBody_of_large {offset : Byte} (hp : c.params = [offset]) (hlarge : 15 < offset.toNat) :
    readMissesBody c s = reject .badParam s := by
  rw [readMissesBody, hp]
  exact if_neg (by omega)

theorem readMissesBody_of_offset {offset : Byte} (hp : c.params = [offset]) (hlow : offset.toNat ≤ 15) :
    readMissesBody c s = accept ([numByte s.mu.records.length, numByte (s.missesFrom offset.toNat).length] ++
      (s.missesFrom offset.toNat).flatMap (missRecordBytes s)) s := by
  rw [readMissesBody, hp]
  exact if_pos (by omega)

/-- Settles O46: the offset, then the records byte by byte. -/
theorem readMissesReports : Obligations.ReadMissesReports := by
  intro c offset s h hp records laidOut
  refine ⟨fun hlarge => congrArg _ (takeCommand_reject h false (readMissesBody_of_large hp hlarge)), fun hlow => ?_⟩
  have hbytes : missRecordBytes s = laidOut := by
    funext m
    simp only [missRecordBytes, laidOut, Perms.byte_eq_sum, heldOf_eq_heldUnder]
    rfl
  have hbody := readMissesBody_of_offset (s := s) hp hlow
  rw [hbytes] at hbody
  exact congrArg _ (takeCommand_now h false hbody (up_of_fromOwner h))
end

end Sys2Proof.Machine
end

section
/-! PROOFS. The events the part takes by itself: each acts only while it is due (R53, R59, R69, R79, R98, R105, R107, R122,
R157; log entry 4), and a tick takes first what timers at zero call for (R82, R83; log entry 21). -/

namespace Sys2Proof.Machine

section
variable {s : State}

/-! ### Events that are not due -/

theorem headProcessing_mem_due {p : Port} : .headProcessing p ∈ s.due ↔ s.headWaits p = true := by
  simp [State.due, State.timed]

theorem portStaleRelookup_mem_due {p : Port} : .portStaleRelookup p ∈ s.due ↔ s.portStale p = true := by
  simp [State.due, State.timed]

theorem rpStaleRelookup_mem_due : .rpStaleRelookup ∈ s.due ↔ s.rpStale = true := by
  simp [State.due, State.timed]

theorem replayProcessing_mem_due : .replayProcessing ∈ s.due ↔ s.replayWaits = true := by
  simp [State.due, State.timed]

theorem grant_mem_due : .grant ∈ s.due ↔ s.fabric = .up ∧ s.winner.isSome = true := by
  simp [State.due, State.timed]

theorem upstreamTimerExpiry_mem_due {i : SlotIndex} :
    .upstreamTimerExpiry i ∈ s.due ↔ s.fu.ort[i].occupied = true ∧ s.fu.ort[i].timer = 0 := by
  simp [State.due, State.timed, State.expiredSlots]

theorem missTimerExpiry_mem_due {t : Half} :
    .missTimerExpiry t ∈ s.due ↔ ∃ m ∈ s.mu.records, m.timer = 0 ∧ m.ticket = t := by
  simp [State.due, State.timed, and_assoc]

theorem fenceCompletion_mem_due : .fenceCompletion ∈ s.due ↔ s.fenceDue = true := by
  simp [State.due, State.timed]

theorem drainCompletion_mem_due : .drainCompletion ∈ s.due ↔ s.mc.admission = .draining ∧ s.quiet = true := by
  simp [State.due, State.timed]

theorem exec_headProcessing_of_not_waits {p : Port} (h : ¬ s.headWaits p = true) : exec (.headProcessing p) s = .next s := by
  show execHeadProcessing p s = _
  rw [execHeadProcessing]
  split
  case h_1 hqueue hstaging => exact absurd (by rw [State.headWaits, hqueue, hstaging]; rfl) h
  case h_2 => rfl

theorem exec_portStaleRelookup_of_not_stale {p : Port} (h : ¬ s.portStale p = true) :
    exec (.portStaleRelookup p) s = .next s := by
  show execPortStaleRelookup p s = _
  rw [execPortStaleRelookup]
  split
  case h_1 hstaging =>
    rw [State.portStale, hstaging] at h
    rw [if_neg h]
  case h_2 => rfl

theorem exec_rpStaleRelookup_of_not_stale (h : ¬ s.rpStale = true) : exec .rpStaleRelookup s = .next s := by
  show execRpStaleRelookup s = _
  rw [execRpStaleRelookup]
  split
  case h_1 hrp =>
    rw [State.rpStale, hrp] at h
    rw [if_neg h]
  case h_2 => rfl

theorem exec_replayProcessing_of_not_waits (h : ¬ s.replayWaits = true) : exec .replayProcessing s = .next s := by
  show execReplayProcessing s = _
  rw [execReplayProcessing]
  split
  case h_1 hrp hqueue => exact absurd (by rw [State.replayWaits, hrp, hqueue]; rfl) h
  case h_2 => rfl

theorem exec_grant_of_no_winner (h : ¬ (s.fabric = .up ∧ s.winner.isSome = true)) : exec .grant s = .next s := by
  show execGrant s = _
  rw [execGrant]
  split
  case isTrue => rfl
  case isFalse hfabric =>
    have hup : s.fabric = .up := by
      cases hlink : s.fabric with
      | up => rfl
      | down => exact absurd hlink hfabric
    have hnone : s.winner = none := by simpa [hup] using h
    rw [hnone]

theorem exec_upstreamTimerExpiry_of_not_due {i : SlotIndex} (h : ¬ (s.fu.ort[i].occupied = true ∧ s.fu.ort[i].timer = 0)) :
    exec (.upstreamTimerExpiry i) s = .next s := by
  show execUpstreamTimerExpiry i s = _
  rw [execUpstreamTimerExpiry, if_neg h]

/-- R98: an expiry ends a live record that is due, or finds none. -/
theorem expireTicket_cases (s : State) (t : Half) :
    (∃ m ∈ s.mu.records, m.timer = 0 ∧ m.ticket = t ∧ expireTicket s t = expireRecord m s) ∨ expireTicket s t = s := by
  unfold expireTicket
  split
  case h_1 m hrecord =>
    split
    case isTrue hzero =>
      have hticket := List.find?_some hrecord
      exact .inl ⟨m, List.mem_of_find?_eq_some hrecord, hzero, beq_iff_eq.1 hticket, rfl⟩
    case isFalse => exact .inr rfl
  case h_2 => exact .inr rfl

theorem exec_missTimerExpiry_of_not_due {t : Half} (h : ¬ ∃ m ∈ s.mu.records, m.timer = 0 ∧ m.ticket = t) :
    exec (.missTimerExpiry t) s = .next s := by
  obtain ⟨m, hm, hzero, hticket, -⟩ | hsame := expireTicket_cases s t
  · exact absurd ⟨m, hm, hzero, hticket⟩ h
  · exact congrArg _ hsame

/-- Settles O52, event by event: what makes each due is what it looks at before it acts. -/
theorem onlyDueEventsAct : Obligations.OnlyDueEventsAct := by
  intro event s hown hdue
  cases event with
  | headProcessing p => exact exec_headProcessing_of_not_waits (mt headProcessing_mem_due.2 hdue)
  | portStaleRelookup p => exact exec_portStaleRelookup_of_not_stale (mt portStaleRelookup_mem_due.2 hdue)
  | grant => exact exec_grant_of_no_winner (mt grant_mem_due.2 hdue)
  | upstreamTimerExpiry i => exact exec_upstreamTimerExpiry_of_not_due (mt upstreamTimerExpiry_mem_due.2 hdue)
  | missTimerExpiry t => exact exec_missTimerExpiry_of_not_due (mt missTimerExpiry_mem_due.2 hdue)
  | replayProcessing => exact exec_replayProcessing_of_not_waits (mt replayProcessing_mem_due.2 hdue)
  | rpStaleRelookup => exact exec_rpStaleRelookup_of_not_stale (mt rpStaleRelookup_mem_due.2 hdue)
  | fenceCompletion =>
    refine exec_fenceCompletion_of_none fun f hf hempty => hdue (fenceCompletion_mem_due.2 ?_)
    exact List.any_eq_true.2 ⟨f, hf, by rw [FenceRec.due, hempty]; rfl⟩
  | drainCompletion =>
    show Host.Outcome.next (endDrain s) = _
    rw [endDrain, if_neg (mt drainCompletion_mem_due.2 hdue)]
  | _ => exact nomatch hown

/-! ### What comes before a tick -/

theorem expireIfDue_of_not_due {i : SlotIndex} (h : ¬ (s.fu.ort[i].occupied = true ∧ s.fu.ort[i].timer = 0)) :
    expireIfDue s i = s := if_neg h

theorem foldl_expireIfDue_of_none {l : List SlotIndex}
    (h : ∀ i ∈ l, ¬ (s.fu.ort[i].occupied = true ∧ s.fu.ort[i].timer = 0)) : l.foldl expireIfDue s = s := by
  induction l with
  | nil => rfl
  | cons i l ih =>
    rw [List.foldl_cons, expireIfDue_of_not_due (h i List.mem_cons_self)]
    exact ih fun j hj => h j (List.mem_cons_of_mem _ hj)

/-- A fence reply that is due goes before the others that are. -/
theorem settle_completeOldestFence (s : State) : settle (completeOldestFence s) = settle s := by
  rw [settle, settle, completeDueFences_completeOldestFence]

/-- R157: a quiet part has nothing to take but the end of its drain. -/
theorem settle_of_quiet (hquiet : s.quiet = true) : settle s = endDrain s := by
  obtain ⟨⟨hfree, -, -, -, hrecords⟩, -⟩ := (quiet_iff_empty s).1 hquiet
  have hfence : s.fenceDue = false := by
    rw [State.quiet, Bool.and_eq_true] at hquiet
    simpa using hquiet.2
  have hslots (i : SlotIndex) : ¬ (s.fu.ort[i].occupied = true ∧ s.fu.ort[i].timer = 0) := fun h => by
    have := hfree i
    rw [h.1] at this
    exact nomatch this
  rw [settle, completeDueFences_none s hfence, foldl_expireIfDue_of_none fun i _ => hslots i, expireRecords, hrecords]
  rfl

theorem answerQuiesce_quiet (status : ReplyStatus) (s : State) : (answerQuiesce status s).quiet = s.quiet := by
  simp only [State.quiet, State.drained, State.fenceDue, State.ortOccupancy, State.stagingEmpty, answerQuiesce_fu,
    answerQuiesce_ports, answerQuiesce_mu]

/-- A drain that ends leaves nothing to take. -/
theorem settle_endDrain (hdraining : s.mc.admission = .draining) (hquiet : s.quiet = true) :
    settle (endDrain s) = settle s := by
  have hend : endDrain s = completeDrain s := if_pos ⟨hdraining, hquiet⟩
  have hstill : (completeDrain s).quiet = true := by
    rw [completeDrain, answerQuiesce_quiet]
    exact hquiet
  have hended : (completeDrain s).mc.admission ≠ .draining := by
    rw [completeDrain, answerQuiesce_mc_admission]
    exact nofun
  rw [settle_of_quiet hquiet, hend, settle_of_quiet hstill, endDrain, if_neg fun h => hended h.1]

/-- R79: the first expiry that is due, with nothing due before it, goes before the others. -/
theorem settle_expireSlot {i : SlotIndex} {rest : List SlotIndex} (hfence : s.fenceDue = false)
    (hslots : s.expiredSlots = i :: rest) : settle (expireSlot i s) = settle s := by
  obtain ⟨before, after, hsplit, hbefore, hi, -⟩ := List.filter_eq_cons_iff.1 hslots
  have hdue : s.fu.ort[i].occupied = true ∧ s.fu.ort[i].timer = 0 := by simpa using hi
  have hearlier (j : SlotIndex) (hj : j ∈ before) : ¬ (s.fu.ort[j].occupied = true ∧ s.fu.ort[j].timer = 0) := by
    simpa using hbefore j hj
  have hort (j : SlotIndex) : (completeDueFences (expireSlot i s)).fu.ort[j] =
      if j = i then s.fu.ort[j].afterExpiry else s.fu.ort[j] := by
    have h := expireIfDue_ort s i j
    rwa [expireIfDue, if_pos hdue] at h
  have hfreed : ∀ j ∈ before ++ [i], ¬ ((completeDueFences (expireSlot i s)).fu.ort[j].occupied = true ∧
      (completeDueFences (expireSlot i s)).fu.ort[j].timer = 0) := by
    intro j hj
    simp only [hort]
    obtain hj | hj := List.mem_append.1 hj
    · split
      case isTrue h => exact absurd hdue (h ▸ hearlier j hj)
      case isFalse => exact hearlier j hj
    · obtain rfl := List.mem_singleton.1 hj
      rw [if_pos rfl, Slot.afterExpiry, if_pos hdue]
      exact fun h => nomatch h.1
  rw [settle, settle, completeDueFences_none s hfence, hsplit, List.append_cons, List.foldl_append,
    foldl_expireIfDue_of_none hfreed, List.foldl_append, List.foldl_append, foldl_expireIfDue_of_none hearlier, List.foldl_cons,
    List.foldl_nil, expireIfDue, if_pos hdue]

theorem expireRecord_records (m : MissRec) (s : State) :
    (expireRecord m s).mu.records = s.mu.records.filter fun n => n.ticket != m.ticket := by
  rw [expireRecord, freeRecord_records, logFault_mu, foldl_keeps (·.mu.records) _ fun _ _ => by rw [endRequest_mu]]

/-- A ticket that no live record holds does not expire. -/
theorem expireTicket_of_gone {t : Half} (h : ∀ m ∈ s.mu.records, m.ticket ≠ t) : expireTicket s t = s := by
  obtain ⟨m, hm, -, hticket, -⟩ | hsame := expireTicket_cases s t
  · exact absurd hticket (h m hm)
  · exact hsame

theorem expireTicket_records_subset {t : Half} {m : MissRec} (hm : m ∈ (expireTicket s t).mu.records) :
    m ∈ s.mu.records := by
  obtain ⟨n, -, -, -, hexpired⟩ | hsame := expireTicket_cases s t
  · rw [hexpired, expireRecord_records] at hm
    exact List.mem_of_mem_filter hm
  · rwa [hsame] at hm

/-- Expiries of a ticket that no live record holds can be left out. -/
theorem foldl_expireTicket_filter {t : Half} (l : List Half) (h : ∀ m ∈ s.mu.records, m.ticket ≠ t) :
    (l.filter (· != t)).foldl expireTicket s = l.foldl expireTicket s := by
  induction l generalizing s with
  | nil => rfl
  | cons t' l ih =>
    by_cases hsame : t' = t
    · rw [List.filter_cons_of_neg (by simp [hsame]), List.foldl_cons, hsame, expireTicket_of_gone h]
      exact ih h
    · rw [List.filter_cons_of_pos (by simp [hsame]), List.foldl_cons, List.foldl_cons]
      exact ih fun m hm => h m (expireTicket_records_subset hm)

/-- R98: the first expiry of a record that is due goes before the others. -/
theorem expireRecords_expireTicket {m : MissRec} {rest : List MissRec}
    (hrecords : (s.mu.records.filter fun m => m.timer == 0) = m :: rest) :
    expireRecords (expireTicket s m.ticket) = expireRecords s := by
  obtain ⟨n, -, -, hticket, hexpired⟩ | hsame := expireTicket_cases s m.ticket
  · have hleft : (expireTicket s m.ticket).mu.records = s.mu.records.filter fun n => n.ticket != m.ticket := by
      rw [hexpired, expireRecord_records, hticket]
    have hgone : ∀ n ∈ (expireTicket s m.ticket).mu.records, n.ticket ≠ m.ticket := by
      intro n hn
      rw [hleft] at hn
      simpa using List.of_mem_filter hn
    have hdue : (((expireTicket s m.ticket).mu.records.filter fun m => m.timer == 0).map MissRec.ticket) =
        (rest.map MissRec.ticket).filter (· != m.ticket) := by
      rw [hleft, List.filter_comm, hrecords, List.filter_cons_of_neg (by simp), List.filter_map]
      rfl
    rw [expireRecords, hdue, foldl_expireTicket_filter _ hgone, expireRecords, hrecords]
    rfl
  · rw [hsame]

theorem settle_expireTicket {m : MissRec} {rest : List MissRec} (hfence : s.fenceDue = false)
    (hslots : s.expiredSlots = []) (hrecords : (s.mu.records.filter fun m => m.timer == 0) = m :: rest) :
    settle (expireTicket s m.ticket) = settle s := by
  have hnone (i : SlotIndex) : ¬ (s.fu.ort[i].occupied = true ∧ s.fu.ort[i].timer = 0) := by
    simpa using List.filter_eq_nil_iff.1 hslots i (List.mem_finRange i)
  have hstill (i : SlotIndex) : ¬ ((expireTicket s m.ticket).fu.ort[i].occupied = true ∧
      (expireTicket s m.ticket).fu.ort[i].timer = 0) := by
    simp only [expireTicket_fu]
    exact hnone i
  have hfence' : (expireTicket s m.ticket).fenceDue = false := by
    rw [State.fenceDue, expireTicket_fu]
    exact hfence
  rw [settle, settle, completeDueFences_none _ hfence, completeDueFences_none _ hfence',
    foldl_expireIfDue_of_none fun i _ => hnone i, foldl_expireIfDue_of_none fun i _ => hstill i,
    expireRecords_expireTicket hrecords]

/-! ### TICK -/

theorem expireSlot_phase (i : SlotIndex) (s : State) : (expireSlot i s).phase = s.phase := by
  rw [expireSlot, freeSlot_phase]
  split <;> simp

theorem expireTicket_phase (s : State) (t : Half) : (expireTicket s t).phase = s.phase := by
  obtain ⟨m, -, -, -, hexpired⟩ | hsame := expireTicket_cases s t
  · rw [hexpired, expireRecord, freeRecord_phase, logFault_phase, foldl_keeps (·.phase) _ fun _ _ => by rw [endRequest_phase]]
  · rw [hsame]

theorem endDrain_phase (s : State) : (endDrain s).phase = s.phase := by
  unfold endDrain completeDrain
  split <;> simp

/-- Log entry 21: the first event that is due leaves the rest to be taken, and the part running. -/
theorem settle_of_timed {event : Instr} {rest : List Instr} {u : State} (htimed : s.timed = event :: rest)
    (hu : exec event s = .next u) : settle u = settle s ∧ u.phase = s.phase := by
  have hevent {e : Instr} {l : List Instr} {v : State} (hlist : s.timed = e :: l) (hv : exec e s = .next v)
      (hsettle : settle v = settle s) (hphase : v.phase = s.phase) : settle u = settle s ∧ u.phase = s.phase := by
    obtain ⟨rfl, -⟩ := List.cons.inj (htimed.symm.trans hlist)
    obtain rfl := Host.Outcome.next.inj (hu.symm.trans hv)
    exact ⟨hsettle, hphase⟩
  cases hfence : s.fenceDue with
  | true =>
    exact hevent (by simp only [State.timed, hfence, if_true]; rfl) rfl (settle_completeOldestFence s)
      (completeOldestFence_phase s)
  | false =>
    by_cases hdrain : s.mc.admission = .draining ∧ s.quiet = true
    · exact hevent (by simp only [State.timed, hfence, hdrain.1, hdrain.2]; rfl) rfl (settle_endDrain hdrain.1 hdrain.2) (endDrain_phase s)
    · have hlate : s.timed = s.expiredSlots.map .upstreamTimerExpiry ++
          (s.mu.records.filter fun m => m.timer == 0).map fun m => .missTimerExpiry m.ticket := by
        simp [State.timed, hfence, hdrain]
      cases hslots : s.expiredSlots with
      | cons i slots =>
        have hmem : i ∈ s.expiredSlots := by rw [hslots]; exact List.mem_cons_self
        have hdue : s.fu.ort[i].occupied = true ∧ s.fu.ort[i].timer = 0 := by simpa [State.expiredSlots] using hmem
        rw [hslots] at hlate
        exact hevent hlate (exec_upstreamTimerExpiry_of_due hdue.1 hdue.2) (settle_expireSlot hfence hslots)
          (expireSlot_phase i s)
      | nil =>
        cases hrecords : s.mu.records.filter fun m => m.timer == 0 with
        | nil =>
          rw [hslots, hrecords] at hlate
          exact nomatch htimed.symm.trans hlate
        | cons m records =>
          rw [hslots, hrecords] at hlate
          exact hevent hlate rfl (settle_expireTicket hfence hslots hrecords) (expireTicket_phase s _)

theorem lowered_eq (t : Byte) : lowered t = BitVec.ofNat 8 (t.toNat - 1) := by
  rw [← lowered_toNat, BitVec.ofNat_toNat, BitVec.setWidth_eq]

/-- Settles O17: what is due, event by event, then the timers. -/
theorem tickLowersTimers : Obligations.TickLowersTimers := by
  intro s hrun
  refine ⟨fun event rest u htimed hu => ?_, fun htimed => ⟨tickAll s, ?_, fun i => ?_, ?_⟩⟩
  · obtain ⟨hsettle, hphase⟩ := settle_of_timed htimed hu
    rw [exec_tick_of_running hrun, exec_tick_of_running (hphase.trans hrun), hsettle]
  · rw [exec_tick_of_running hrun, settle_of_timed_nil htimed]
  · rw [tickAll_ort, lowered_eq]
  · simp only [tickAll, lowered_eq, and_self]

end

end Sys2Proof.Machine
end

section
/-! PROOFS. RESET TRAFFIC and RESET FULL: what they send, in which order, and what they leave (R64, R86, R112, R126, R150,
R162; log entry 24). -/

namespace Sys2Proof.Machine

section
variable {s : State}

/-! ### Ports -/

/-- R64: what refusing queued packets sends: nothing for a POSTED WRITE. -/
def queuedRefusals (p : Port) (queue : List RxPacket) : List Sent :=
  (queue.filter fun pkt => decide (pkt.kind ≠ 0x13)).map fun pkt => .client p (refusedRaw .reset pkt)

theorem queueRefusals_eq (p : Port) (s : State) :
    s.queueRefusals p = if s.ports[p].link = .up ∧ s.ports[p].queue ≠ [] then
      queuedRefusals p s.ports[p].queue ++ [.client p (creditPacket s.ports[p].queue.length)] else [] := rfl

theorem foldl_endQueued {p : Port} (hup : s.ports[p].link = .up) (queue : List RxPacket) :
    queue.foldl (fun s pkt => endQueued p pkt s) s = { s with sent := s.sent ++ queuedRefusals p queue } := by
  induction queue generalizing s with
  | nil => simp [queuedRefusals]
  | cons pkt queue ih =>
    have hfirst : endQueued p pkt s = { s with sent := s.sent ++ queuedRefusals p [pkt] } := by
      rw [endQueued, RxPacket.posted, sendClient_eq_told, told_of_up hup]
      by_cases hkind : pkt.kind = 0x13
      · simp [queuedRefusals, hkind]
      · rw [if_neg (by simpa using hkind), queuedRefusals, List.filter_cons_of_pos (by simpa using hkind)]
        rfl
    have hsplit : queuedRefusals p (pkt :: queue) = queuedRefusals p [pkt] ++ queuedRefusals p queue := by
      simp only [queuedRefusals, List.filter_cons, List.filter_nil]
      split <;> rfl
    rw [List.foldl_cons, hfirst, ih (by exact hup), hsplit, List.append_assoc]

theorem endPort_of_up {p : Port} (hup : s.ports[p].link = .up) :
    endPort p s = { s.setStaging p none with
      sent := s.sent ++ (s.stagedRefusal .reset p ++ queuedRefusals p s.ports[p].queue) } := by
  rw [endPort, endStaged_of_up hup, ← List.append_assoc]
  exact foldl_endQueued (s := { s.setStaging p none with sent := s.sent ++ s.stagedRefusal .reset p })
    ((setStaging_link p p none s).trans hup) _

theorem PortState.afterReset_link (c : PortState) : c.afterReset.link = c.link := by
  unfold PortState.afterReset
  split <;> rfl

/-- R64: what a RESET sends for a port and leaves of it. -/
theorem resetPort_eq (s : State) (p : Port) :
    resetPort s p = { s with
      ports := s.ports.set p.val s.ports[p].afterReset p.isLt
      sent := s.sent ++ (s.stagedRefusal .reset p ++ s.queueRefusals p) } := by
  by_cases hup : s.ports[p].link = .up
  case neg =>
    rw [resetPort, if_neg hup, PortState.afterReset, if_neg hup, stagedRefusal_eq, if_neg hup, queueRefusals_eq,
      if_neg fun h => hup h.1]
    simp
  have hemptied : (endPort p s).queueEmptied p = { s with
      ports := s.ports.set p.val s.ports[p].afterReset p.isLt
      sent := s.sent ++ (s.stagedRefusal .reset p ++ queuedRefusals p s.ports[p].queue) } := by
    rw [endPort_of_up hup, PortState.afterReset, if_pos hup]
    simp [State.queueEmptied, State.setStaging, State.updPort]
  rw [resetPort_of_up hup, hemptied, queueRefusals_eq]
  by_cases hqueue : s.ports[p].queue = []
  · rw [if_pos hqueue, if_neg fun h => h.2 hqueue, hqueue]
    rfl
  · have hlink : (s.ports.set p.val s.ports[p].afterReset p.isLt)[p].link = .up :=
      (updPort_link PortState.afterReset_link p p s).trans hup
    rw [if_neg hqueue, if_pos ⟨hup, hqueue⟩, sendClient_eq_told, told_of_up (by exact hlink)]
    simp only [List.append_assoc]

/-- R64: the ports after their part of a RESET. -/
def State.portsReset (s : State) : State :=
  { s with
    ports := mapTable PortState.afterReset s.ports
    sent := s.sent ++ (List.finRange 4).flatMap fun p => s.stagedRefusal .reset p ++ s.queueRefusals p }

theorem foldl_resetPort (s : State) : (List.finRange 4).foldl resetPort s = s.portsReset := by
  rw [State.portsReset, ← changedAt_finRange]
  refine foldl_portSweep resetPort_eq PortState.afterReset_link (fun s t p hlink hport => ?_) (List.nodup_finRange 4) s
  rw [stagedRefusal_congr .reset hlink hport, queueRefusals_eq, queueRefusals_eq, hport]

/-! ### Fence replies, the replay cache apart -/

/-- `t` is `u` but for the replay cache, which the reply of a RESET overwrites. -/
abbrev CacheApart (t u : State) : Prop := ∃ cache, t = u.setCache cache

theorem CacheApart.trans {t u v : State} (htu : CacheApart t u) (huv : CacheApart u v) : CacheApart t v := by
  obtain ⟨cache, rfl⟩ := htu
  obtain ⟨cache', rfl⟩ := huv
  exact ⟨cache, rfl⟩

theorem replyFence_apart (hup : s.fabric = .up) (f : FenceRec) :
    CacheApart (replyFence f s) { s with sent := s.sent ++ [s.fenceReply f] } := by
  have hreply : s.fenceReply f = s.replyTo f.node f.sequence f.command.code .ok [numByte f.count] := by
    rw [State.fenceReply]
    cases f.command <;> rfl
  rw [replyFence, deferredReply_of_up hup, hreply]
  exact ⟨_, rfl⟩

theorem foldl_replyFence_apart (hup : s.fabric = .up) (l : List FenceRec) :
    CacheApart (l.foldl (fun s f => replyFence f s) s) { s with sent := s.sent ++ l.map s.fenceReply } := by
  induction l generalizing s with
  | nil => exact ⟨s.mc.cache, by simp [State.setCache]⟩
  | cons f l ih =>
    obtain ⟨cache, hfirst⟩ := replyFence_apart hup f
    obtain ⟨cache', hrest⟩ := ih (s := replyFence f s) (by rw [hfirst]; exact hup)
    refine ⟨cache', ?_⟩
    rw [List.foldl_cons, hrest, hfirst, List.map_cons, List.append_cons s.sent (s.fenceReply f) (l.map s.fenceReply)]
    rfl

/-- R126: the fences that are due leave the list and are replied to. -/
def State.fencesReplied (s : State) : State :=
  { s with
    fu := { s.fu with fences := s.fu.fences.filter fun f => !f.due }
    sent := s.sent ++ (s.fu.fences.filter FenceRec.due).map s.fenceReply }

theorem completeDueFences_apart (hup : s.fabric = .up) : CacheApart (completeDueFences s) s.fencesReplied :=
  foldl_replyFence_apart (s := { s with fu := { s.fu with fences := s.fu.fences.filter fun f => !f.due } }) hup _

/-! ### Slots -/

/-- R81: a fence record that captures a slot no longer. -/
def FenceRec.without (i : SlotIndex) (f : FenceRec) : FenceRec := { f with captured := f.captured.filter fun j => j != i }

/-- Every fence record waits for some slot, and only for occupied ones of the list. -/
abbrev State.FencesWaitIn (l : List SlotIndex) (s : State) : Prop :=
  ∀ f ∈ s.fu.fences, f.captured ≠ [] ∧ ∀ j ∈ f.captured, j ∈ l ∧ s.fu.ort[j].occupied = true

/-- R86, R126: a slot ended and freed, and the fences that end there replied to. -/
def State.slotReset (i : SlotIndex) (s : State) : State :=
  { s with
    fu := { s.fu with
      ort := s.fu.ort.set i.val s.fu.ort[i].freed i.isLt
      fences := (s.fu.fences.map (FenceRec.without i)).filter fun f => !f.due }
    sent := s.sent ++ (s.slotRefusal .reset i ++ (s.fencesEndingAt i).map s.fenceReply) }

/-- With the slots below it free, a record that loses its last slot at `i` is one that ends there. -/
theorem without_due_iff {i : SlotIndex} {l : List SlotIndex} (hl : (i :: l).Pairwise (· < ·)) {f : FenceRec}
    (hwaits : f.captured ≠ [] ∧ ∀ j ∈ f.captured, j ∈ i :: l) :
    (f.without i).due = true ↔ i ∈ f.captured ∧ ∀ j ∈ f.captured, j ≤ i := by
  have hdue : (f.without i).due = true ↔ ∀ j ∈ f.captured, j = i := by
    simp [FenceRec.due, FenceRec.without]
  rw [hdue]
  obtain ⟨hsome, hin⟩ := hwaits
  refine ⟨fun hall => ⟨?_, fun j hj => (hall j hj).le⟩, fun h j hj => ?_⟩
  · obtain ⟨j, hj⟩ := List.exists_mem_of_ne_nil _ hsome
    exact hall j hj ▸ hj
  · obtain hfirst | hlater := List.mem_cons.1 (hin j hj)
    · exact hfirst
    · exact absurd (h.2 j hj) (not_le.2 (List.rel_of_pairwise_cons hl hlater))

theorem without_of_not_captured {i : SlotIndex} {f : FenceRec} (h : i ∉ f.captured) : f.without i = f := by
  have hsame : (f.captured.filter fun j => j != i) = f.captured :=
    List.filter_eq_self.2 fun j hj => bne_iff_ne.2 fun e => h (e ▸ hj)
  rw [FenceRec.without, hsame]

/-- A free slot has no part in a RESET: nothing waits for it. -/
theorem slotReset_of_free {i : SlotIndex} {l : List SlotIndex} (hwait : s.FencesWaitIn l)
    (hfree : s.fu.ort[i].occupied = false) : s.slotReset i = s := by
  have hapart (f : FenceRec) (hf : f ∈ s.fu.fences) : i ∉ f.captured := fun hi =>
    nomatch hfree.symm.trans ((hwait f hf).2 i hi).2
  have hort : s.fu.ort.set i.val s.fu.ort[i].freed i.isLt = s.fu.ort := by
    rw [Slot.freed_of_free hfree]
    simp
  have hfences : (s.fu.fences.map (FenceRec.without i)).filter (fun f => !f.due) = s.fu.fences := by
    rw [List.map_congr_left fun f hf => without_of_not_captured (hapart f hf), List.map_id']
    exact List.filter_eq_self.2 fun f hf => by simpa [FenceRec.due] using (hwait f hf).1
  have hrefusal : s.slotRefusal .reset i = [] := if_neg fun h => Bool.false_ne_true (hfree.symm.trans h.1)
  have hending : s.fencesEndingAt i = [] := List.filter_eq_nil_iff.2 fun f hf => by simp [hapart f hf]
  rw [State.slotReset, hort, hfences, hrefusal, hending]
  simp

/-- R81, R86: an occupied slot refused and freed, its fences not yet replied to. -/
def State.slotEnded (i : SlotIndex) (s : State) : State :=
  { s with
    fu := { s.fu with
      ort := s.fu.ort.set i.val s.fu.ort[i].freed i.isLt
      fences := s.fu.fences.map (FenceRec.without i) }
    sent := s.sent ++ s.slotRefusal .reset i }

theorem freeSlot_refuseSlot {i : SlotIndex} (hocc : s.fu.ort[i].occupied = true) :
    freeSlot i (refuseSlot s.fu.ort[i] .reset s) = s.slotEnded i := by
  have hrefused : refuseSlot s.fu.ort[i] .reset s = { s with sent := s.sent ++ s.slotRefusal .reset i } := by
    rw [refuseSlot_eq_ended, ended_eq, State.slotRefusal, hocc]
    cases s.fu.ort[i].orphan <;> rfl
  rw [hrefused]
  rfl

theorem slotEnded_fencesReplied {i : SlotIndex} {l : List SlotIndex} (hl : (i :: l).Pairwise (· < ·))
    (hwait : s.FencesWaitIn (i :: l)) : (s.slotEnded i).fencesReplied = s.slotReset i := by
  have hending : ((s.fu.fences.map (FenceRec.without i)).filter FenceRec.due).map s.fenceReply =
      (s.fencesEndingAt i).map s.fenceReply := by
    rw [List.filter_map, List.map_map, State.fencesEndingAt]
    refine congrArg _ (List.filter_congr fun f hf => ?_)
    obtain ⟨hsome, hin⟩ := hwait f hf
    rw [Bool.eq_iff_iff, decide_eq_true_iff]
    exact without_due_iff hl ⟨hsome, fun j hj => (hin j hj).1⟩
  rw [State.slotReset, ← hending, ← List.append_assoc]
  rfl

theorem resetSlot_apart {i : SlotIndex} {l : List SlotIndex} (hup : s.fabric = .up) (hl : (i :: l).Pairwise (· < ·))
    (hwait : s.FencesWaitIn (i :: l)) : CacheApart (resetSlot s i) (s.slotReset i) := by
  by_cases hocc : s.fu.ort[i].occupied = true
  · rw [resetSlot, if_pos hocc, freeSlot_refuseSlot hocc, ← slotEnded_fencesReplied hl hwait]
    exact completeDueFences_apart (by exact hup)
  · rw [resetSlot, if_neg hocc, slotReset_of_free hwait (by simpa using hocc)]
    exact ⟨s.mc.cache, rfl⟩

theorem slotReset_ort_ne {i j : SlotIndex} (hne : i ≠ j) (s : State) : (s.slotReset i).fu.ort[j] = s.fu.ort[j] := by
  have hval : i.val ≠ j.val := fun e => hne (Fin.ext e)
  simp [State.slotReset, hval]

theorem slotReset_waits {i : SlotIndex} {l : List SlotIndex} (hwait : s.FencesWaitIn (i :: l)) :
    (s.slotReset i).FencesWaitIn l := by
  intro f hf
  obtain ⟨hf, hdue⟩ := List.mem_filter.1 hf
  obtain ⟨g, hg, rfl⟩ := List.mem_map.1 hf
  refine ⟨by simpa [FenceRec.due] using hdue, fun j hj => ?_⟩
  obtain ⟨hj, hne⟩ := List.mem_filter.1 hj
  have hne : j ≠ i := by simpa using hne
  obtain ⟨hin, hocc⟩ := (hwait g hg).2 j hj
  rw [slotReset_ort_ne hne.symm]
  exact ⟨(List.mem_cons.1 hin).resolve_left hne, hocc⟩

/-- R126: freeing a slot below `j` does not change which records end at `j`. -/
theorem slotReset_endingAt {i j : SlotIndex} (hlt : i < j) (s : State) :
    ((s.slotReset i).fencesEndingAt j).map (s.slotReset i).fenceReply = (s.fencesEndingAt j).map s.fenceReply := by
  have hfilter : (s.slotReset i).fencesEndingAt j = ((s.fencesEndingAt j).map (FenceRec.without i)) := by
    rw [State.fencesEndingAt, State.fencesEndingAt, State.slotReset, List.filter_filter, List.filter_map]
    refine congrArg _ (List.filter_congr fun f _ => ?_)
    have hne : j ≠ i := hlt.ne'
    rw [Bool.eq_iff_iff]
    simp only [Function.comp_apply, Bool.and_eq_true, decide_eq_true_iff, FenceRec.due, FenceRec.without,
      Bool.not_eq_true', List.isEmpty_eq_false_iff, List.mem_filter, bne_iff_ne, ne_eq]
    refine ⟨fun ⟨⟨hj, hall⟩, _⟩ => ⟨hj.1, fun k hk => ?_⟩, fun ⟨hj, hall⟩ => ⟨⟨⟨hj, hne⟩, fun k hk => hall k hk.1⟩, ?_⟩⟩
    · by_cases hki : k = i
      · exact hki ▸ hlt.le
      · exact hall k ⟨hk, hki⟩
    · exact List.ne_nil_of_mem (List.mem_filter.2 ⟨hj, by simpa using hne⟩)
  rw [hfilter, List.map_map]
  rfl

/-- R86, R126: the slots of an ascending list, ended one by one. -/
theorem foldl_resetSlot_apart {l : List SlotIndex} (hup : s.fabric = .up) (hl : l.Pairwise (· < ·))
    (hwait : s.FencesWaitIn l) :
    CacheApart (l.foldl resetSlot s) { s with
      fu := { s.fu with ort := changedAt l Slot.freed s.fu.ort, fences := [] }
      sent := s.sent ++ l.flatMap fun i => s.slotRefusal .reset i ++ (s.fencesEndingAt i).map s.fenceReply } := by
  induction l generalizing s with
  | nil =>
    have hnone : s.fu.fences = [] := List.eq_nil_iff_forall_not_mem.2 fun f hf => by
      obtain ⟨hsome, hin⟩ := hwait f hf
      obtain ⟨j, hj⟩ := List.exists_mem_of_ne_nil _ hsome
      exact nomatch (hin j hj).1
    refine ⟨s.mc.cache, ?_⟩
    rw [changedAt_nil, ← hnone]
    simp [State.setCache]
  | cons i l ih =>
    obtain ⟨hlt, hl'⟩ := List.pairwise_cons.1 hl
    have hi : i ∉ l := fun h => lt_irrefl i (hlt i h)
    obtain ⟨cache, hfirst⟩ := resetSlot_apart hup hl hwait
    rw [List.foldl_cons, hfirst]
    refine (ih (s := (s.slotReset i).setCache cache) hup hl' (slotReset_waits hwait)).trans ⟨cache, ?_⟩
    have hlater : (l.flatMap fun j => ((s.slotReset i).setCache cache).slotRefusal .reset j ++
        (((s.slotReset i).setCache cache).fencesEndingAt j).map ((s.slotReset i).setCache cache).fenceReply) =
        l.flatMap fun j => s.slotRefusal .reset j ++ (s.fencesEndingAt j).map s.fenceReply :=
      List.flatMap_congr fun j hj => by
        have hrefusal : ((s.slotReset i).setCache cache).slotRefusal .reset j = s.slotRefusal .reset j := by
          have hslot : ((s.slotReset i).setCache cache).fu.ort[j] = s.fu.ort[j] := slotReset_ort_ne (hlt j hj).ne s
          simp only [State.slotRefusal, hslot]
          rfl
        rw [hrefusal]
        exact congrArg _ (slotReset_endingAt (hlt j hj) s)
    rw [hlater, List.flatMap_cons, ← changedAt_cons hi, ← List.append_assoc]
    rfl

/-! ### The whole of the traffic -/

/-- R162 steps 2 to 6: the state with its traffic ended. -/
def State.trafficEnded (s : State) : State :=
  { s with
    ports := mapTable PortState.afterReset s.ports
    fu := { s.fu with ort := mapTable Slot.freed s.fu.ort, fences := [] }
    mu := { s.mu with records := [], held := [], rp := none }
    mc := { s.mc with admission := .closed, quiesce := none }
    sent := s.sent ++ s.resetSends }

/-- R86, R126: what ending the slots sends, behind the replies of the fences that are due already (log entry 24). -/
def State.slotSends (s : State) : List Sent :=
  (s.fu.fences.filter fun f => decide (f.captured = [])).map s.fenceReply ++
    (List.finRange 32).flatMap fun i => s.slotRefusal .reset i ++ (s.fencesEndingAt i).map s.fenceReply

/-- R86, R126: the slots after their part of a RESET. -/
def State.slotsReset (s : State) : State :=
  { s with
    fu := { s.fu with ort := mapTable Slot.freed s.fu.ort, fences := [] }
    sent := s.sent ++ s.slotSends }

/-- R112: ports, slots and miss unit after their part of a RESET. -/
def State.missUnitReset (s : State) : State :=
  { s.portsReset.slotsReset with
    mu := { s.mu with records := [], held := [], rp := none }
    sent := s.portsReset.slotsReset.sent ++ s.missRefusals .reset }

theorem resetSlots_apart (hup : s.fabric = .up) (hlaw : s.FenceLaw) : CacheApart (resetSlots s) s.slotsReset := by
  obtain ⟨cache, hreplied⟩ := completeDueFences_apart hup
  have hwait : (s.fencesReplied.setCache cache).FencesWaitIn (List.finRange 32) := by
    intro f hf
    obtain ⟨hf, hdue⟩ := List.mem_filter.1 hf
    exact ⟨by simpa [FenceRec.due] using hdue, fun j hj => ⟨List.mem_finRange j, (hlaw.2.2 f hf).2.2 j hj⟩⟩
  have hdue : s.fu.fences.filter FenceRec.due = s.fu.fences.filter fun f => decide (f.captured = []) :=
    List.filter_congr fun f _ => by rw [Bool.eq_iff_iff, decide_eq_true_iff, FenceRec.due, List.isEmpty_iff]
  have hending (i : SlotIndex) : (s.fencesReplied.setCache cache).fencesEndingAt i = s.fencesEndingAt i := by
    refine (List.filter_filter ..).trans (List.filter_congr fun f _ => ?_)
    rw [Bool.eq_iff_iff, Bool.and_eq_true, decide_eq_true_iff]
    refine ⟨And.left, fun h => ⟨h, ?_⟩⟩
    simpa [FenceRec.due] using List.ne_nil_of_mem h.1
  rw [resetSlots, hreplied]
  refine (foldl_resetSlot_apart (s := s.fencesReplied.setCache cache) hup (List.pairwise_lt_finRange 32) hwait).trans
    ⟨cache, ?_⟩
  rw [State.slotsReset, State.slotSends, ← hdue, ← List.append_assoc]
  simp only [hending, changedAt_finRange]
  rfl

/-- R154, R162: the reply of a pending QUIESCE. -/
def State.quiesceReply (status : ReplyStatus) (s : State) : List Sent :=
  match s.mc.quiesce with
  | none => []
  | some q => [s.replyTo q.node q.sequence 0x12 status []]

theorem answerQuiesce_apart (hup : s.fabric = .up) (status : ReplyStatus) :
    CacheApart (answerQuiesce status s) { s with
      mc := { s.mc with quiesce := none }, sent := s.sent ++ s.quiesceReply status } := by
  rw [answerQuiesce, State.quiesceReply]
  cases hquiesce : s.mc.quiesce with
  | none =>
    have hsame : ({ s.mc with quiesce := none } : ManageCtl) = s.mc := by rw [← hquiesce]
    simp only [hsame, List.append_nil]
    exact ⟨s.mc.cache, rfl⟩
  | some q =>
    simp only
    rw [deferredReply_of_up (by exact hup)]
    exact ⟨_, rfl⟩

/-- R162: what a RESET sends, part by part. -/
theorem resetSends_eq (s : State) : s.resetSends =
    ((List.finRange 4).flatMap fun p => s.stagedRefusal .reset p ++ s.queueRefusals p) ++ s.slotSends ++
      s.missRefusals .reset ++ s.quiesceReply .aborted := by
  cases hquiesce : s.mc.quiesce <;>
    simp only [State.resetSends, State.slotSends, State.quiesceReply, hquiesce, List.append_assoc]

theorem missRefusals_congr {t : State} (code : RefusalCode) (hlink : ∀ p : Port, t.ports[p].link = s.ports[p].link)
    (hmu : t.mu = s.mu) : t.missRefusals code = s.missRefusals code := by
  simp only [State.missRefusals, State.replays, State.heldUnder, hmu, refusal_congr hlink]

theorem slotSends_congr {t : State} (hlink : ∀ p : Port, t.ports[p].link = s.ports[p].link) (hfu : t.fu = s.fu)
    (hstrap : t.strap = s.strap) : t.slotSends = s.slotSends := by
  have hreply : t.fenceReply = s.fenceReply := by
    funext f
    simp only [State.fenceReply, State.replyTo, State.ownNode, hstrap]
  simp only [State.slotSends, State.slotRefusal, State.fencesEndingAt, hreply, hfu, refusal_congr hlink]

theorem endTraffic_apart (hup : s.fabric = .up) (hlaw : s.FenceLaw) : CacheApart (endTraffic s) s.trafficEnded := by
  have hlink (p : Port) : s.portsReset.ports[p].link = s.ports[p].link := by
    simp only [State.portsReset, Fin.getElem_fin, getElem_mapTable, PortState.afterReset_link]
  obtain ⟨cache, hslots⟩ := resetSlots_apart (s := s.portsReset) hup hlaw
  have hmiss : endMissUnit .reset (resetSlots s.portsReset) = s.missUnitReset.setCache cache := by
    have hrefusals : s.portsReset.slotsReset.missRefusals .reset = s.missRefusals .reset :=
      missRefusals_congr .reset hlink rfl
    rw [hslots, endMissUnit_eq, State.missUnitReset, ← hrefusals]
    rfl
  obtain ⟨cache', hquiesce⟩ := answerQuiesce_apart (s := s.missUnitReset.setCache cache) hup .aborted
  have htraffic : endTraffic s =
      (answerQuiesce .aborted (endMissUnit .reset (resetSlots ((List.finRange 4).foldl resetPort s)))).setAdmission .closed :=
    rfl
  refine ⟨cache', ?_⟩
  have hsent : s.missUnitReset.sent ++ s.quiesceReply .aborted = s.sent ++ s.resetSends := by
    have hsends : s.portsReset.slotSends = s.slotSends := slotSends_congr hlink rfl rfl
    rw [resetSends_eq, State.missUnitReset, State.slotsReset, hsends, State.portsReset]
    simp only [List.append_assoc]
  rw [htraffic, foldl_resetPort, hmiss, hquiesce, State.trafficEnded, ← hsent]
  rfl

/-! ### The commands -/

/-- R134, R162: the entry of the command's own reply stands for those of the replies before it. -/
theorem exec_resetTraffic_of_owner {c : Command} (h : FromOwner 0x14 c s) (hp : c.params = [1]) (hlaw : s.FenceLaw) :
    exec (.resetTraffic c) s = .next ((setCause .traffic s.trafficLost s.trafficEnded).answered 0x14 c .ok []) := by
  have hup := up_of_fromOwner h
  obtain ⟨cache, htraffic⟩ := endTraffic_apart hup hlaw
  have hbody : resetTrafficBody c s =
      accept [] ((setCause .traffic s.trafficLost s.trafficEnded).setCache cache) := by
    rw [resetTrafficBody, if_pos hp, resetTraffic, htraffic]
    rfl
  exact congrArg _ (takeCommand_now h false hbody hup)

theorem exec_resetFull_of_owner {c : Command} (h : FromOwner 0x14 c s) (hp : c.params = [2]) (hlaw : s.FenceLaw) :
    exec (.resetFull c) s =
      .next ((setCause .full s.trafficLost (clearTables s.trafficEnded)).answered 0x14 c .ok []) := by
  have hup := up_of_fromOwner h
  obtain ⟨cache, htraffic⟩ := endTraffic_apart hup hlaw
  have hbody : resetFullBody c s =
      accept [] ((setCause .full s.trafficLost (clearTables s.trafficEnded)).setCache cache) := by
    rw [resetFullBody, if_pos hp, resetFull, htraffic]
    rfl
  exact congrArg _ (takeCommand_now h false hbody hup)

theorem getElem_afterReset (v : Vector PortState 4) (p : Port) :
    (mapTable PortState.afterReset v)[p] =
      if v[p].link = .up then
        { v[p] with queue := [], staging := none, credits := v[p].credits + v[p].queue.length }
      else v[p] := by
  simp only [Fin.getElem_fin, getElem_mapTable]
  rfl

theorem getElem_freed (v : Vector Slot 32) (i : SlotIndex) :
    (mapTable Slot.freed v)[i] = { v[i] with occupied := false } := by
  simp only [Fin.getElem_fin, getElem_mapTable]
  rfl

/-- Settles O31, by the state with its traffic ended. -/
theorem resetTrafficEndsTraffic : Obligations.ResetTrafficEndsTraffic := by
  intro c s h
  refine ⟨fun k hp hk => ?_, fun hp hlaw => ⟨_, exec_resetTraffic_of_owner h hp hlaw, ?_⟩⟩
  case refine_2 =>
    unfold State.answered setCause State.trafficEnded
    exact ⟨⟨getElem_afterReset s.ports, getElem_freed s.fu.ort, rfl, rfl, rfl, rfl, rfl, rfl, rfl, rfl, rfl, rfl, rfl⟩,
      rfl, rfl, rfl, rfl, rfl, rfl, rfl, rfl, rfl⟩
  have hbody : resetTrafficBody c s = reject .badParam s :=
    if_neg fun hone => hk (List.cons.inj (hp.symm.trans hone)).1
  exact congrArg _ (takeCommand_reject h false hbody)

/-- Settles O32, by the state with its traffic ended and its tables cleared. -/
theorem resetFullClears : Obligations.ResetFullClears := by
  intro c s h hp hlaw
  refine ⟨_, exec_resetFull_of_owner h hp hlaw, ?_⟩
  unfold State.answered setCause clearTables State.trafficEnded
  refine ⟨⟨getElem_afterReset s.ports, getElem_freed s.fu.ort, rfl, rfl, rfl, rfl, rfl, rfl, rfl, rfl, rfl, rfl, rfl⟩,
    rfl, rfl, rfl, fun i => ?_, rfl, fun p st => ?_, fun d => ?_, rfl, rfl, rfl, rfl, rfl⟩
  · simp [TransUnit.cleared]
  · simp [DomainUnit.cleared]
  · simp [DomainUnit.cleared]

end

end Sys2Proof.Machine
end
